-- ==== Sys2Proof/Word.lean ====
section
/-! DEFINITION. The word types of the block (00_scope.md R7): a byte is 8 bits, wire fields are 16 bits, Sample values
are 32-bit patterns. -/

namespace Sys2Proof

/-- A byte (R7). -/
abbrev Byte := BitVec 8

/-- A 16-bit value: the wire fields P, T, B and the 16-bit registers (R10, R62). -/
abbrev Half := BitVec 16

/-- A 32-bit pattern: the floating-point Sample registers (R17, R18). -/
abbrev Quad := BitVec 32

/-- The 10-bit command word `{cmd_op[1:0], cmd_data[7:0]}` (R67). -/
abbrev CmdWord := BitVec 10

end Sys2Proof
end

