-- ==== Sys2Proof/Config.lean ====
section
/-! DEFINITION. What an implementation fixes and the spec leaves open: the four control bytes (00_scope.md R5, R6) and
the channel's answers where its lists of answers have run out (20_memory.md R54). -/

namespace Sys2Proof

/-- The four control bytes of the handshake (R66), the parameters a model takes as arguments (R6). -/
structure CtrlBytes where
  /-- `INIT_BYTE` -/
  init : Byte
  /-- `CONFIRM_BYTE` -/
  confirm : Byte
  /-- `FAIL_BYTE` -/
  fail : Byte
  /-- `RAWLOCK_BYTE` -/
  rawlock : Byte
  deriving DecidableEq, Repr

/-- The precondition of R6 on the parameters: the four values are pairwise different. It is a premise of claims that
need it; no operation assumes it. -/
def CtrlBytes.distinct (c : CtrlBytes) : Bool :=
  c.init != c.confirm && c.init != c.fail && c.init != c.rawlock &&
    c.confirm != c.fail && c.confirm != c.rawlock && c.fail != c.rawlock

/-- `INIT_BYTE` of the block: open (R5, log 2). DESIGN CHOICE: an opaque constant, which no proof can evaluate. -/
opaque Config.initByte : Byte

/-- `CONFIRM_BYTE` of the block: open (R5, log 2). DESIGN CHOICE: an opaque constant. -/
opaque Config.confirmByte : Byte

/-- `FAIL_BYTE` of the block: open (R5, log 2). DESIGN CHOICE: an opaque constant. -/
opaque Config.failByte : Byte

/-- `RAWLOCK_BYTE` of the block: open (R5, log 2). DESIGN CHOICE: an opaque constant. -/
opaque Config.rawlockByte : Byte

/-- The answer of the channel to the n-th `ChOvf()` for which `State.ovf` holds none: a free value (R54, log 4). -/
opaque Config.freeOvf : Nat → Bool

/-- The answer of the channel to the n-th `ChAbd()` for which `State.abd` holds none: a free value (R54, log 4). -/
opaque Config.freeAbd : Nat → Bool

/-- What the n-th `ChRead()` attempt for which `State.rx` holds no answer finds, a byte or none: a free value (R47, R54, log 4), so
that no run has to end in want of bytes (R152, R194). -/
opaque Config.freeRx : Nat → Option Byte

/-- The control bytes the block is built with. -/
def Config.ctl : CtrlBytes :=
  { init := Config.initByte, confirm := Config.confirmByte, fail := Config.failByte, rawlock := Config.rawlockByte }

end Sys2Proof
end

