-- ==== Sys2Proof/Syntax.lean ====
section
/-! DEFINITION. The rows of spec/opcode_table.json, one constructor each. The block decodes no instructions (30_encoding.md);
its table lists the encodings of five spaces and the steps of its two sequencers (10_state.md R19, R20). -/

namespace Sys2Proof

/-- The encoded spaces: the five of R60 (`RES` and `MF` counted apart) and the codes of the two sequencers (R19, R20). -/
inductive Space
  /-- command words, R67 -/
  | cmd
  /-- frames on the wire, R61 -/
  | frame
  /-- packet type codes, R65 -/
  | ptype
  /-- control characters, R66 -/
  | ctrl
  /-- codes of `H_STATE`, R20 -/
  | hstep
  /-- codes of `F_STATE`, R19 -/
  | fstep
  /-- result codes, R68 -/
  | res
  /-- malformed cause codes, R69 -/
  | mf
  deriving DecidableEq, Repr

/-- One constructor per row of the opcode table. -/
inductive Instr
  /-- `CS_CLR` (R81); `data` is the ignored `cmd_data` -/
  | csClr (data : Byte)
  /-- `CS_ADD b` (R82) -/
  | csAdd (b : Byte)
  /-- `RD_FRAME` (R83); `data` is the ignored `cmd_data` -/
  | rdFrame (data : Byte)
  /-- `HS_START` (R84); `data` is the ignored `cmd_data` -/
  | hsStart (data : Byte)
  /-- a frame on the wire (R61): the length field `P` and the `P` body bytes that follow it -/
  | frame (p : Half) (body : List Byte)
  /-- packet type 1 (R121) -/
  | ptAttQ7
  /-- packet type 2 (R123) -/
  | ptAttF32
  /-- packet type 11 (R125) -/
  | ptDbgU16
  /-- packet type 12 (R126) -/
  | ptDbgF32
  /-- every other packet type `t` (R127) -/
  | ptUnknown (t : Half)
  /-- the initiate byte (R66, R139) -/
  | ctlInit
  /-- the confirm byte (R66, R148) -/
  | ctlConfirm
  /-- the fail byte (R66, R148) -/
  | ctlFail
  /-- the raw baud-lock byte (R66, R148) -/
  | ctlRawlock
  /-- every other control character `v` (R66, R148) -/
  | ctlOther (v : Byte)
  /-- `H_STATE` 0 (R136) -/
  | hIdle
  /-- `H_STATE` 1 (R137) -/
  | hInitClr
  /-- `H_STATE` 2 (R138) -/
  | hInitEn
  /-- `H_STATE` 3 (R139) -/
  | hTxInit
  /-- `H_STATE` 4 (R140) -/
  | hChkOvf
  /-- `H_STATE` 5 (R141) -/
  | hFlush
  /-- `H_STATE` 6 (R142) -/
  | hChkAbd
  /-- `H_STATE` 7 (R143) -/
  | hDisAbd
  /-- `H_STATE` 8 (R144) -/
  | hTxConf
  /-- `H_STATE` 9 (R145) -/
  | hRxEcho
  /-- `H_STATE` 10 (R146) -/
  | hRtyTx
  /-- `H_STATE` 11 (R147) -/
  | hRtyRx
  /-- `H_STATE` 12 (R150) -/
  | hLocked
  /-- `F_STATE` 0 (R91) -/
  | fIdle
  /-- `F_STATE` 1 (R92) -/
  | fLen0
  /-- `F_STATE` 2 (R93) -/
  | fLen1
  /-- `F_STATE` 3 (R94 to R99) -/
  | fBody
  /-- result 0x0 (R68) -/
  | resNone
  /-- result 0x1 (R100) -/
  | resFrameOk
  /-- result 0x2 (R164) -/
  | resFrameUnknown
  /-- result 0x3 (R162) -/
  | resCsumMismatch
  /-- result 0x4 (R163) -/
  | resMalformed
  /-- result 0x5 (R165) -/
  | resDecodeLen
  /-- result 0x6 (R149) -/
  | resHsLocked
  /-- result 0x7 (R167) -/
  | resRejected
  /-- result 0x8 (R85) -/
  | resCsDone
  /-- result 0x9, never emitted (R168) -/
  | resRsvdTimeout
  /-- result 0xA, never emitted (R169) -/
  | resRsvdBudget
  /-- cause 0 (R69) -/
  | mfNone
  /-- cause 1 (R93) -/
  | mfHdrTrunc
  /-- cause 2 (R95) -/
  | mfCapacity
  /-- cause 3 (R95) -/
  | mfOverrun
  /-- cause 4 (R95) -/
  | mfSlack
  deriving DecidableEq, Repr

/-- The space an instruction's row belongs to (the table's "format"). -/
def Instr.space : Instr → Space
  | .csClr _ | .csAdd _ | .rdFrame _ | .hsStart _ => .cmd
  | .frame _ _ => .frame
  | .ptAttQ7 | .ptAttF32 | .ptDbgU16 | .ptDbgF32 | .ptUnknown _ => .ptype
  | .ctlInit | .ctlConfirm | .ctlFail | .ctlRawlock | .ctlOther _ => .ctrl
  | .hIdle | .hInitClr | .hInitEn | .hTxInit | .hChkOvf | .hFlush | .hChkAbd | .hDisAbd | .hTxConf | .hRxEcho
  | .hRtyTx | .hRtyRx | .hLocked => .hstep
  | .fIdle | .fLen0 | .fLen1 | .fBody => .fstep
  | .resNone | .resFrameOk | .resFrameUnknown | .resCsumMismatch | .resMalformed | .resDecodeLen | .resHsLocked
  | .resRejected | .resCsDone | .resRsvdTimeout | .resRsvdBudget => .res
  | .mfNone | .mfHdrTrunc | .mfCapacity | .mfOverrun | .mfSlack => .mf

end Sys2Proof
end

