-- ==== Sys2Proof/WellFormed.lean ====
section
/-! DEFINITION. Which terms of `Instr` stand for a row of the opcode table, given the four control bytes. -/

namespace Sys2Proof

/-- A packet type code is one of the four the table defines (R65). -/
def definedType (t : Half) : Bool :=
  t == 0x0001#16 || t == 0x0002#16 || t == 0x000B#16 || t == 0x000C#16

/-- A byte is one of the four control bytes (R66). -/
def CtrlBytes.named (c : CtrlBytes) (v : Byte) : Bool :=
  v == c.init || v == c.confirm || v == c.fail || v == c.rawlock

/-- The checks on an instruction's fields: a frame has exactly `P` body bytes (R63), an unknown type is none of the four
(R65), the control bytes are pairwise different (R6) and "other" is none of them (R66). A frame need not be
well-formed in the sense of R64: a malformed frame is an input the framer handles. -/
def Instr.wf (c : CtrlBytes) : Instr → Bool
  | .frame p body => body.length == p.toNat
  | .ptUnknown t => !definedType t
  | .ctlInit | .ctlConfirm | .ctlFail | .ctlRawlock => c.distinct
  | .ctlOther v => c.distinct && !c.named v
  | .csClr _ | .csAdd _ | .rdFrame _ | .hsStart _ => true
  | .ptAttQ7 | .ptAttF32 | .ptDbgU16 | .ptDbgF32 => true
  | .hIdle | .hInitClr | .hInitEn | .hTxInit | .hChkOvf | .hFlush | .hChkAbd | .hDisAbd | .hTxConf | .hRxEcho
  | .hRtyTx | .hRtyRx | .hLocked => true
  | .fIdle | .fLen0 | .fLen1 | .fBody => true
  | .resNone | .resFrameOk | .resFrameUnknown | .resCsumMismatch | .resMalformed | .resDecodeLen | .resHsLocked
  | .resRejected | .resCsDone | .resRsvdTimeout | .resRsvdBudget => true
  | .mfNone | .mfHdrTrunc | .mfCapacity | .mfOverrun | .mfSlack => true

end Sys2Proof
end

