-- ==== Sys2Proof/Decode.lean ====
section
/-! DEFINITION. Decoding of each encoded space (30_encoding.md), rejecting by name, and the encoder. A space of codes is
laid out in whole bytes, most significant byte first, its unused high bits zero; a frame is its bytes in the order of
the wire (R61). -/

namespace Sys2Proof

/-- Why bytes are no instruction of a space. -/
inductive Reject
  /-- fewer bytes than the space's code, or than a frame's length field says -/
  | truncated
  /-- a bit above the space's width is set -/
  | highBits
  /-- a code the space does not assign (R20, R68, R69) -/
  | unassigned
  deriving DecidableEq, Repr

/-- The answer of a decoder: an instruction and the bytes after it, or a named rejection. -/
inductive Decoded
  /-- the instruction and the bytes that follow it -/
  | ok (i : Instr) (rest : List Byte)
  /-- no instruction -/
  | reject (why : Reject)
  deriving DecidableEq, Repr

/-- A 16-bit field from its two bytes, first byte high (R62). -/
def beHalf (hi lo : Byte) : Half := hi ++ lo

/-- The first byte on the wire of a 16-bit field (R41). -/
def hiByte (v : Half) : Byte := v.extractLsb' 8 8

/-- The second byte on the wire of a 16-bit field (R41). -/
def loByte (v : Half) : Byte := v.extractLsb' 0 8

/-- The command word's decoder (R67): all four opcodes are defined. -/
def decodeCmd (w : CmdWord) : Instr :=
  let op : BitVec 2 := w.extractLsb' 8 2
  let data : Byte := w.extractLsb' 0 8
  if op = 0b00#2 then .csClr data
  else if op = 0b01#2 then .csAdd data
  else if op = 0b10#2 then .rdFrame data
  else .hsStart data

/-- The packet type decoder (R65): a closed five-way case on all 16 bits (R132). -/
def decodePType (t : Half) : Instr :=
  if t = 0x0001#16 then .ptAttQ7
  else if t = 0x0002#16 then .ptAttF32
  else if t = 0x000B#16 then .ptDbgU16
  else if t = 0x000C#16 then .ptDbgF32
  else .ptUnknown t

/-- The control character a byte is (R66), compared in the order of R148 (confirm, then fail or raw baud-lock); the
initiate byte has a row of its own and is tested last (log 20). -/
def decodeCtrl (c : CtrlBytes) (v : Byte) : Instr :=
  if v = c.confirm then .ctlConfirm
  else if v = c.fail then .ctlFail
  else if v = c.rawlock then .ctlRawlock
  else if v = c.init then .ctlInit
  else .ctlOther v

/-- The step of an `H_STATE` code (R20); 13 to 15 are never taken. -/
def decodeHStep (v : BitVec 4) : Option Instr :=
  match v.toNat with
  | 0 => some .hIdle
  | 1 => some .hInitClr
  | 2 => some .hInitEn
  | 3 => some .hTxInit
  | 4 => some .hChkOvf
  | 5 => some .hFlush
  | 6 => some .hChkAbd
  | 7 => some .hDisAbd
  | 8 => some .hTxConf
  | 9 => some .hRxEcho
  | 10 => some .hRtyTx
  | 11 => some .hRtyRx
  | 12 => some .hLocked
  | _ => none

/-- The step of an `F_STATE` code (R19). -/
def decodeFStep (v : BitVec 2) : Instr :=
  match v.toNat with
  | 0 => .fIdle
  | 1 => .fLen0
  | 2 => .fLen1
  | _ => .fBody

/-- The result a code stands for (R68); 0xB to 0xF are unassigned. -/
def decodeRes (v : BitVec 4) : Option Instr :=
  match v.toNat with
  | 0 => some .resNone
  | 1 => some .resFrameOk
  | 2 => some .resFrameUnknown
  | 3 => some .resCsumMismatch
  | 4 => some .resMalformed
  | 5 => some .resDecodeLen
  | 6 => some .resHsLocked
  | 7 => some .resRejected
  | 8 => some .resCsDone
  | 9 => some .resRsvdTimeout
  | 10 => some .resRsvdBudget
  | _ => none

/-- The malformed cause a code stands for (R69); 5 to 7 are never produced. -/
def decodeMf (v : BitVec 3) : Option Instr :=
  match v.toNat with
  | 0 => some .mfNone
  | 1 => some .mfHdrTrunc
  | 2 => some .mfCapacity
  | 3 => some .mfOverrun
  | 4 => some .mfSlack
  | _ => none

/-- One byte that holds a code of `n` bits: its high bits must be zero and the code assigned. -/
def decodeCode (n : Nat) (f : BitVec n → Option Instr) (v : Byte) (rest : List Byte) : Decoded :=
  if v.toNat < 2 ^ n then
    match f (BitVec.ofNat n v.toNat) with
    | some i => .ok i rest
    | none => .reject .unassigned
  else .reject .highBits

/-- The frame at the head of a byte sequence (R61, R63): its first two bytes alone give its length. -/
def decodeFrame : List Byte → Decoded
  | hi :: lo :: rest =>
    let p := beHalf hi lo
    if rest.length < p.toNat then .reject .truncated
    else .ok (.frame p (rest.take p.toNat)) (rest.drop p.toNat)
  | _ => .reject .truncated

/-- The decoder of every space, total on any bytes. -/
def decode (c : CtrlBytes) : Space → List Byte → Decoded
  | .cmd, hi :: lo :: rest =>
    if (beHalf hi lo).toNat < 1024 then .ok (decodeCmd (BitVec.ofNat 10 (beHalf hi lo).toNat)) rest
    else .reject .highBits
  | .cmd, _ => .reject .truncated
  | .frame, bytes => decodeFrame bytes
  | .ptype, hi :: lo :: rest => .ok (decodePType (beHalf hi lo)) rest
  | .ptype, _ => .reject .truncated
  | .ctrl, v :: rest => .ok (decodeCtrl c v) rest
  | .ctrl, [] => .reject .truncated
  | .hstep, v :: rest => decodeCode 4 decodeHStep v rest
  | .hstep, [] => .reject .truncated
  | .fstep, v :: rest => decodeCode 2 (fun x => some (decodeFStep x)) v rest
  | .fstep, [] => .reject .truncated
  | .res, v :: rest => decodeCode 4 decodeRes v rest
  | .res, [] => .reject .truncated
  | .mf, v :: rest => decodeCode 3 decodeMf v rest
  | .mf, [] => .reject .truncated

/-- The bytes of a command word: six zero bits, then `{cmd_op, cmd_data}` (R67). -/
def encodeCmd (op : BitVec 2) (data : Byte) : List Byte := [op.zeroExtend 8, data]

/-- The bytes of an instruction, from the encoding tables of 30_encoding.md and 10_state.md R19, R20. -/
def encode (c : CtrlBytes) : Instr → List Byte
  | .csClr data => encodeCmd 0b00#2 data
  | .csAdd b => encodeCmd 0b01#2 b
  | .rdFrame data => encodeCmd 0b10#2 data
  | .hsStart data => encodeCmd 0b11#2 data
  | .frame p body => hiByte p :: loByte p :: body
  | .ptAttQ7 => [0x00#8, 0x01#8]
  | .ptAttF32 => [0x00#8, 0x02#8]
  | .ptDbgU16 => [0x00#8, 0x0B#8]
  | .ptDbgF32 => [0x00#8, 0x0C#8]
  | .ptUnknown t => [hiByte t, loByte t]
  | .ctlInit => [c.init]
  | .ctlConfirm => [c.confirm]
  | .ctlFail => [c.fail]
  | .ctlRawlock => [c.rawlock]
  | .ctlOther v => [v]
  | .hIdle => [0#8]
  | .hInitClr => [1#8]
  | .hInitEn => [2#8]
  | .hTxInit => [3#8]
  | .hChkOvf => [4#8]
  | .hFlush => [5#8]
  | .hChkAbd => [6#8]
  | .hDisAbd => [7#8]
  | .hTxConf => [8#8]
  | .hRxEcho => [9#8]
  | .hRtyTx => [10#8]
  | .hRtyRx => [11#8]
  | .hLocked => [12#8]
  | .fIdle => [0#8]
  | .fLen0 => [1#8]
  | .fLen1 => [2#8]
  | .fBody => [3#8]
  | .resNone => [0#8]
  | .resFrameOk => [1#8]
  | .resFrameUnknown => [2#8]
  | .resCsumMismatch => [3#8]
  | .resMalformed => [4#8]
  | .resDecodeLen => [5#8]
  | .resHsLocked => [6#8]
  | .resRejected => [7#8]
  | .resCsDone => [8#8]
  | .resRsvdTimeout => [9#8]
  | .resRsvdBudget => [10#8]
  | .mfNone => [0#8]
  | .mfHdrTrunc => [1#8]
  | .mfCapacity => [2#8]
  | .mfOverrun => [3#8]
  | .mfSlack => [4#8]

/-- The instruction of a decoded answer. -/
def Decoded.instr : Decoded → Option Instr
  | .ok i _ => some i
  | .reject _ => none

/-- A 48-bit header number `{P, T, B}` (the FRAME row's pattern, P most significant) laid out as the bytes of a frame
whose bytes after the header are zero (log 21). -/
def headerBytes (w : Nat) : List Byte :=
  let p : Half := BitVec.ofNat 16 (w / 2 ^ 32)
  let t : Half := BitVec.ofNat 16 (w / 2 ^ 16)
  let b : Half := BitVec.ofNat 16 w
  hiByte p :: loByte p ::
    ([hiByte t, loByte t, hiByte b, loByte b] ++ List.replicate (p.toNat - 4) 0#8).take p.toNat

/-- The table's words as one numbering (log 13). The eight formats are separate spaces whose numbers collide, and the block
never reads a word without knowing its space; here the space is chosen by the width and, among words of one width, the
row whose mask fixes most bits comes first: 48 bits a frame header; 16 bits a defined packet type, else a command word,
else an unknown packet type; 8 bits an `H_STATE` code, else a control character. -/
def decodeTableWord (nbits w : Nat) : Option Instr :=
  if nbits = 48 then (decode Config.ctl .frame (headerBytes w)).instr
  else if nbits = 16 then
    if 65536 ≤ w then none
    else
      let bytes : List Byte := [BitVec.ofNat 8 (w / 256), BitVec.ofNat 8 w]
      if !definedType (BitVec.ofNat 16 w) && decide (w < 1024) then (decode Config.ctl .cmd bytes).instr
      else (decode Config.ctl .ptype bytes).instr
  else if nbits = 8 then
    if 256 ≤ w then none
    else if w < 13 then (decode Config.ctl .hstep [BitVec.ofNat 8 w]).instr
    else (decode Config.ctl .ctrl [BitVec.ofNat 8 w]).instr
  else none

end Sys2Proof
end

