-- ==== Sys2Proof/Machine/State.lean ====
section
/-! DEFINITION. The state of the block: the registers S0 to S22 of 10_state.md R10, grouped by the unit that owns them
(R29), the port-level strobe, and the environment's side as plain lists. -/

namespace Sys2Proof.Machine

/-- `F_STATE` (R19); the numeric codes are `FState.code`. -/
inductive FState
  /-- no read in progress -/
  | idle
  /-- waiting for the high byte of `Packet_nBytes` -/
  | len0
  /-- waiting for its low byte -/
  | len1
  /-- waiting for body byte number `F_IDX` -/
  | body
  deriving DecidableEq, Repr

/-- `H_STATE` (R20), thirteen values; codes 13 to 15 are never taken (log 12). -/
inductive HState
  | idle | initClr | initEn | txInit | chkOvf | flush | chkAbd | disAbd | txConf | rxEcho | rtyTx | rtyRx | locked
  deriving DecidableEq, Repr

/-- `F_MALF` (R24, R69): why the frame in progress is malformed; codes 5 to 7 are never produced (log 12). -/
inductive Malf
  | none | hdrTrunc | capacity | overrun | slack
  deriving DecidableEq, Repr

/-- Result codes (R68), the value of `LAST_RES`; codes 0xB to 0xF are unassigned (log 12). -/
inductive ResCode
  | none | frameOk | frameUnknown | csumMismatch | malformed | decodeLen | hsLocked | rejected | csDone
  | rsvdTimeout | rsvdBudget
  deriving DecidableEq, Repr

/-- The events of a trace (R71). -/
inductive Event
  /-- the host's command `CS_CLR` is accepted -/
  | csClr
  /-- the host's command `CS_ADD b` is accepted -/
  | csAdd (b : Byte)
  /-- the host's command `RD_FRAME` is accepted -/
  | rdFrame
  /-- the host's command `HS_START` is accepted -/
  | hsStart
  /-- `ChRead()` returned `b` -/
  | rx (b : Byte)
  /-- `ChWrite(b)` -/
  | tx (b : Byte)
  /-- `ChOvf()` returned `v` -/
  | ovf (v : Bool)
  /-- `ChFlush()` -/
  | flush
  /-- `ChAbd()` returned `v` -/
  | abd (v : Bool)
  /-- `ChAbdEnable()` -/
  | abdEn
  /-- `ChAbdDisable()` -/
  | abdDis
  /-- `ChAbdClear()` -/
  | abdClr
  /-- the internal event of R166 -/
  | handshakeFailure
  /-- the command completes with a result -/
  | result (c : ResCode)
  deriving DecidableEq, Repr

/-- The payload buffer `PAY` (R14, R40): cells (index, byte), indices rising, no cell that reads as an unlisted one. -/
abbrev Memory := List Host.Cell

/-- The Frame registers and the framer's sequencer, S0 to S5 and S7 to S9. -/
structure Framer where
  /-- S0 `PKT_NBYTES` -/
  pktNBytes : Half
  /-- S1 `PKT_TYPE` -/
  pktType : Half
  /-- S2 `BUF_NBYTES` -/
  bufNBytes : Half
  /-- S3 `PAY[0..49]` -/
  pay : Memory
  /-- S4 `PAYLEN` -/
  payLen : BitVec 6
  /-- S5 `RX_CSUM` -/
  rxCsum : Byte
  /-- S7 `F_MALF` -/
  malf : Malf
  /-- S8 `F_STATE` -/
  state : FState
  /-- S9 `F_IDX` -/
  idx : Half
  deriving DecidableEq, Repr

/-- The registers of the Checksum Engine, S6 and S10. -/
structure Checksum where
  /-- S6 `CS_ACC` -/
  acc : Byte
  /-- S10 `CNT_CSUM` -/
  cnt : Half
  deriving DecidableEq, Repr

/-- The Sample registers, S11 to S16. -/
structure Sample where
  /-- S11 `ROLL` -/
  roll : Quad
  /-- S12 `PITCH` -/
  pitch : Quad
  /-- S13 `YAW` -/
  yaw : Quad
  /-- S14 `DBG_U16` -/
  dbgU16 : Half
  /-- S15 `DBG_INT`, which no rule writes (R18) -/
  dbgInt : Half
  /-- S16 `DBG_F32` -/
  dbgF32 : Quad
  deriving DecidableEq, Repr

/-- The HandshakeSession and its sequencer, S17 to S21. -/
structure Handshake where
  /-- S17 `H_STATE` -/
  state : HState
  /-- S18 `LOCKED` -/
  locked : Bool
  /-- S19 `ECHO` -/
  echo : Byte
  /-- S20 `ECHO_V` -/
  echoV : Bool
  /-- S21 `ABD_EN` -/
  abdEn : Bool
  deriving DecidableEq, Repr

/-- The whole state: the block's registers (`frm`, `cse`, `smp`, `hsm`, `lastRes`), the port-level strobe, and the
environment as plain data (logs 2 to 6, 18). -/
structure State where
  /-- S0 to S5, S7 to S9 -/
  frm : Framer
  /-- S6, S10 -/
  cse : Checksum
  /-- S11 to S16 -/
  smp : Sample
  /-- S17 to S21 -/
  hsm : Handshake
  /-- S22 `LAST_RES` -/
  lastRes : ResCode
  /-- the strobe `res_valid` (R85), port level (log 18) -/
  resValid : Bool
  /-- the control bytes the block is built with (R6, log 2); no step changes them (R57) -/
  ctl : CtrlBytes
  /-- command words the host presents, the first one at the port now (R80, log 5) -/
  cmds : List CmdWord
  /-- the channel's answers to the coming `ChRead()` attempts: a byte, or none available at that attempt; past the end of
  the list they are free values (R47, R54, logs 3, 4) -/
  rx : List (Option Byte)
  /-- the channel's answers to the coming `ChOvf()`; past the end, free values (R48, R54, logs 3, 4) -/
  ovf : List Bool
  /-- the channel's answers to the coming `ChAbd()`; past the end, free values (R50, R54, logs 3, 4) -/
  abd : List Bool
  /-- the level of `rst` at the coming steps; at the end of the list it is low (R89, R185, log 6) -/
  rst : List Bool
  /-- how many polls were answered by a free value (the model's own, log 4) -/
  polls : Nat
  /-- how many `ChRead()` attempts were answered by a free value (the model's own, log 4) -/
  reads : Nat
  /-- the trace (R55, R71), oldest event first -/
  trace : List Event
  deriving DecidableEq, Repr

/-- Why the machine stops. Neither is reached from reset: `Sys2Proof.Machine.Inv` rules both out. -/
inductive Fault
  /-- a payload byte would go to an index of `PAY` outside 0 to 49, which does not exist (R14, R96, log 11). Raised by
  `F_BODY` and by `FRAME`. Safe: it stops where the spec gives no effect. -/
  | payIndex
  /-- `F_BODY` with `F_MALF = MF_NONE` and `F_IDX` past the checksum byte: no rule of 41_packet_framer.md is enabled
  (R99, log 11). Raised by `F_BODY` and by `FRAME`. Safe: it stops where the spec gives no effect. -/
  | framerNoRule
  deriving DecidableEq, Repr

/-- Why an instruction has no meaning. -/
inductive Refusal
  /-- an arm of `exec` without a meaning; safe: it stops. -/
  | notModelled (mnemonic : String)
  /-- a result code the spec says is never emitted (R68, R168, R169, log 15). Raised by `RES_RSVD_TIMEOUT` and
  `RES_RSVD_BUDGET`. Safe: it stops where the spec gives no effect. -/
  | neverEmitted (mnemonic : String)
  deriving DecidableEq, Repr

/-- The outcome of a step or of an instruction. -/
abbrev Outcome := Host.Outcome State Fault Refusal

/-- The machine right after reset (R33, R185): every register at the last column of R10's table, `PAY` all zero (nothing
listed), and an environment of which nothing is fixed in advance (log 9). -/
def State.reset : State where
  frm := { pktNBytes := 0#16, pktType := 0#16, bufNBytes := 0#16, pay := [], payLen := 0#6, rxCsum := 0#8,
           malf := .none, state := .idle, idx := 0#16 }
  cse := { acc := 0#8, cnt := 0#16 }
  smp := { roll := 0#32, pitch := 0#32, yaw := 0#32, dbgU16 := 0#16, dbgInt := 0#16, dbgF32 := 0#32 }
  hsm := { state := .idle, locked := false, echo := 0#8, echoV := false, abdEn := false }
  lastRes := .none
  resValid := false
  ctl := Config.ctl
  cmds := []
  rx := []
  ovf := []
  abd := []
  rst := []
  polls := 0
  reads := 0
  trace := []

end Sys2Proof.Machine
end

