-- ==== Sys2Proof/Machine/Flags.lean ====
section
/-! DEFINITION. What the block derives from its registers and from received bytes: `BUSY`, the sequencer and result codes,
well-formedness of a frame, the additive checksum, the saturating count, `Classify`. There are no condition codes (10_state.md
R28). -/

namespace Sys2Proof.Machine

/-- The code of an `F_STATE` value (R19). -/
def FState.code : FState → BitVec 2
  | .idle => 0#2
  | .len0 => 1#2
  | .len1 => 2#2
  | .body => 3#2

/-- The code of an `H_STATE` value (R20). -/
def HState.code : HState → BitVec 4
  | .idle => 0#4
  | .initClr => 1#4
  | .initEn => 2#4
  | .txInit => 3#4
  | .chkOvf => 4#4
  | .flush => 5#4
  | .chkAbd => 6#4
  | .disAbd => 7#4
  | .txConf => 8#4
  | .rxEcho => 9#4
  | .rtyTx => 10#4
  | .rtyRx => 11#4
  | .locked => 12#4

/-- The code of a malformed cause (R69). -/
def Malf.code : Malf → BitVec 3
  | .none => 0#3
  | .hdrTrunc => 1#3
  | .capacity => 2#3
  | .overrun => 3#3
  | .slack => 4#3

/-- The code of a result (R68). -/
def ResCode.code : ResCode → BitVec 4
  | .none => 0x0#4
  | .frameOk => 0x1#4
  | .frameUnknown => 0x2#4
  | .csumMismatch => 0x3#4
  | .malformed => 0x4#4
  | .decodeLen => 0x5#4
  | .hsLocked => 0x6#4
  | .rejected => 0x7#4
  | .csDone => 0x8#4
  | .rsvdTimeout => 0x9#4
  | .rsvdBudget => 0xA#4

/-- The codes held for the recommended timeouts, never emitted (R68, R168, R169). -/
def ResCode.reserved : ResCode → Bool
  | .rsvdTimeout => true
  | .rsvdBudget => true
  | .none | .frameOk | .frameUnknown | .csumMismatch | .malformed | .decodeLen | .hsLocked | .rejected | .csDone => false

/-- A handshake is in flight: `H_STATE` is neither `H_IDLE` nor `H_LOCKED` (R27). -/
def HState.active (h : HState) : Bool := h != .idle && h != .locked

/-- `BUSY` (R27). -/
def State.busy (s : State) : Bool := s.frm.state != .idle || s.hsm.state.active

/-- `checksum(p)`: the sum of the bytes modulo 256 (R110). -/
def checksum (p : List Byte) : Byte := p.foldl (· + ·) 0#8

/-- One accumulation, `CS_ACC +_8 b`, the carry discarded (R111). -/
def addByte (acc b : Byte) : Byte := acc + b

/-- `sat16_inc` (R8). -/
def sat16Inc (v : Half) : Half := if v = 0xFFFF#16 then 0xFFFF#16 else v + 1#16

/-- Well-formedness of a frame (R64), on unbounded integers. -/
def wellFormed (p b : Half) : Bool := decide (b.toNat ≤ 50) && decide (p.toNat = b.toNat + 5)

/-- The outcome of R95's validation on `P` and `B`: the cause it flags, or `none` where `F_MALF` stays as it is. All
comparisons are on unbounded integers. -/
def validate (p b : Half) : Option Malf :=
  if 50 < b.toNat then some .capacity
  else if p.toNat < b.toNat + 5 then some .overrun
  else if b.toNat + 5 < p.toNat then some .slack
  else none

/-- The three classes of `Classify` (R148). -/
inductive CtlClass
  | isConfirm | isRetry | isOther
  deriving DecidableEq, Repr

/-- `Classify(r)` (R148): all eight bits, confirm first, then fail or raw baud-lock. -/
def classify (c : CtrlBytes) (r : Byte) : CtlClass :=
  if r = c.confirm then .isConfirm
  else if r = c.fail ∨ r = c.rawlock then .isRetry
  else .isOther

end Sys2Proof.Machine
end

