-- ==== Sys2Proof/Machine/Operands.lean ====
section
/-! DEFINITION. The payload buffer as memory, and the operand forms of the decoder (30_encoding.md R73): big-endian 16-bit
values, `F32fromWire` and `Q7toF32`. -/

namespace Sys2Proof.Machine

/-- The number of bytes of `PAY` (R5, `PAYLOAD_CAP`). -/
abbrev payCap : Nat := 50

/-- What an index of `PAY` that is not listed reads as: the reset contents of R10's table (log 10). -/
abbrev payUnlisted : Byte := 0x00#8

/-- `MemRead(PAY, a, 1)` (R8). -/
def Memory.read : Memory → Nat → Byte
  | [], _ => payUnlisted
  | (k, w) :: m, a => if k = a then w else Memory.read m a

/-- `MemWrite(PAY, a, 1, v)` (R8), keeping the canonical form. -/
def Memory.write : Memory → Nat → Byte → Memory
  | [], a, v => if v = payUnlisted then [] else [(a, v)]
  | (k, w) :: m, a, v =>
    if a < k then (if v = payUnlisted then (k, w) :: m else (a, v) :: (k, w) :: m)
    else if a = k then (if v = payUnlisted then m else (a, v) :: m)
    else (k, w) :: Memory.write m a v

/-- The canonical form from index `lo` on: indices rising and below 50, no cell that reads as an unlisted one. -/
def Memory.wfFrom : Nat → Memory → Bool
  | _, [] => true
  | lo, (k, w) :: m => decide (lo ≤ k) && decide (k < payCap) && (w != payUnlisted) && Memory.wfFrom (k + 1) m

/-- The canonical form of the payload buffer (log 10). -/
def Memory.wf (m : Memory) : Bool := Memory.wfFrom 0 m

/-- The bytes `PAY[0 .. n)`. -/
def Memory.bytes (m : Memory) (n : Nat) : List Byte := (List.range n).map (Memory.read m)

/-- The big-endian 16-bit value at `PAY[k]`, `PAY[k + 1]` (R73). -/
def Memory.half (m : Memory) (k : Nat) : Half := beHalf (Memory.read m k) (Memory.read m (k + 1))

/-- The byte rearrangement of types 2 and 12 by its index map (R124): the output bytes, `out[0]` first. -/
def wordSwap (in0 in1 in2 in3 : Byte) : Byte × Byte × Byte × Byte := (in3, in2, in1, in0)

/-- `F32fromWire` (R124): the pattern assembled from the rearranged bytes with `out[0]` least significant. -/
def f32FromWire (in0 in1 in2 in3 : Byte) : Quad :=
  let out := wordSwap in0 in1 in2 in3
  (out.2.2.2 ++ out.2.2.1 : BitVec 16) ++ (out.2.1 ++ out.1 : BitVec 16)

/-- The binary32 pattern at `PAY[k .. k + 4)` (R123, R126). -/
def Memory.quad (m : Memory) (k : Nat) : Quad :=
  f32FromWire (Memory.read m k) (Memory.read m (k + 1)) (Memory.read m (k + 2)) (Memory.read m (k + 3))

/-- The position of the leading one of `m` among bits `k` down to 0 (0 where no higher bit is set): `floor(log2(m))` for
`1 <= m < 2^(k + 1)` (R122). -/
def leadingOne : Nat → Nat → Nat
  | 0, _ => 0
  | k + 1, m => if 2 ^ (k + 1) ≤ m then k + 1 else leadingOne k m

/-- `Q7toF32` of the 16-bit pattern of a signed integer `n` (R122): the binary32 pattern of `n / 128`. PRESUMED: the layout of
binary32, the spec's own general knowledge (log 24). -/
def q7ToF32 (v : Half) : Quad :=
  let n : Int := v.toInt
  if n = 0 then 0x00000000#32
  else
    let m := n.natAbs
    let k := leadingOne 15 m
    let e : BitVec 8 := BitVec.ofNat 8 (120 + k)
    let f : BitVec 23 := BitVec.ofNat 23 ((m - 2 ^ k) * 2 ^ (23 - k))
    (BitVec.ofBool (decide (n < 0)) ++ e ++ f : BitVec (1 + 8 + 23))

end Sys2Proof.Machine
end

