-- ==== Sys2Proof/Machine/Ops.lean ====
section
/-! DEFINITION. The shared operations of the block: the trace, the eight channel operations (20_memory.md R46 to R53), the
result event and the error results (40_commands.md R85, 60_exceptions.md R161), reset (70_reset_and_hazards.md R185), the
checksum engine's two operations, and the host's payload read port. -/

namespace Sys2Proof.Machine

/-! ### The trace and the strobe -/

/-- An event joins the trace (R55, R71). -/
def State.log (s : State) (e : Event) : State := { s with trace := s.trace ++ [e] }

/-- The strobe is high for the one step after a completing step (R85, log 18). -/
def State.strobeLow (s : State) : State := { s with resValid := false }

/-! ### The channel -/

/-- What the `k`-th of the coming `ChRead()` attempts finds, a byte or none (R47, R54): a free value where the channel's list has
run out. -/
def State.rxAnswer (s : State) (k : Nat) : Option Byte :=
  match s.rx[k]? with
  | some answer => answer
  | none => Config.freeRx (s.reads + (k - s.rx.length))

/-- A `ChRead()` attempt is over: the channel has given that answer and gives the next one at the next attempt. -/
def State.rxTake (s : State) : State :=
  { s with rx := s.rx.tail, reads := if s.rx.isEmpty then s.reads + 1 else s.reads }

/-- What `ChRead()` finds at this attempt: the byte, and the state in which the channel has forgotten it; nothing where the
channel has no byte now (R47). -/
def State.chRead (s : State) : Option (Byte × State) :=
  match s.rxAnswer 0 with
  | some b => some (b, s.rxTake.log (.rx b))
  | none => none

/-- A `ChRead()` attempt that found no byte: the attempt is over, no register changes (R47, R59, log 7). -/
def State.noByte (s : State) : State := s.rxTake

/-- The step `k` of a state whose operation is `ChRead()` (R47). -/
def State.onRead (s : State) (k : Byte → State → Outcome) : Outcome :=
  match s.chRead with
  | some (b, t) => k b t
  | none => .next s.noByte

/-- `ChWrite(b)` (R46). -/
def State.chWrite (s : State) (b : Byte) : State := s.log (.tx b)

/-- `ChOvf()` (R48): the answer, and the state after the poll; a free value where the channel's list has run out. -/
def State.chOvf (s : State) : Bool × State :=
  match s.ovf with
  | v :: rest => (v, { s with ovf := rest }.log (.ovf v))
  | [] => (Config.freeOvf s.polls, { s with polls := s.polls + 1 }.log (.ovf (Config.freeOvf s.polls)))

/-- `ChFlush()` (R49): no answer of the channel depends on it (R54). -/
def State.chFlush (s : State) : State := s.log .flush

/-- `ChAbd()` (R50): the answer, and the state after the poll; a free value where the channel's list has run out. -/
def State.chAbd (s : State) : Bool × State :=
  match s.abd with
  | v :: rest => (v, { s with abd := rest }.log (.abd v))
  | [] => (Config.freeAbd s.polls, { s with polls := s.polls + 1 }.log (.abd (Config.freeAbd s.polls)))

/-- `ChAbdEnable()` with its mirror `ABD_EN <- 1` (R51). -/
def State.chAbdEnable (s : State) : State := { s with hsm := { s.hsm with abdEn := true } }.log .abdEn

/-- `ChAbdDisable()` with its mirror `ABD_EN <- 0` (R52). -/
def State.chAbdDisable (s : State) : State := { s with hsm := { s.hsm with abdEn := false } }.log .abdDis

/-- `ChAbdClear()` (R53). -/
def State.chAbdClear (s : State) : State := s.log .abdClr

/-! ### Results and errors (the block's form of taking an exception, R172) -/

/-- `emit Result(code)` (R85): `LAST_RES`, the strobe, and the result event. -/
def State.emit (s : State) (c : ResCode) : State :=
  { s with lastRes := c, resValid := true }.log (.result c)

/-- The end of a read (R100): the framer is idle and the result is emitted. -/
def State.finishFrame (s : State) (c : ResCode) : State :=
  { s with frm := { s.frm with state := .idle } }.emit c

/-- `raise MalformedFrame` (R161, R163): the cause is in `F_MALF` already. -/
def State.raiseMalformed (s : State) : State := s.finishFrame .malformed

/-- `raise ChecksumMismatch` (R115, R162). -/
def State.raiseCsumMismatch (s : State) : State :=
  { s with cse := { s.cse with cnt := sat16Inc s.cse.cnt } }.finishFrame .csumMismatch

/-- `raise DecodeLength` (R128, R165). -/
def State.raiseDecodeLen (s : State) : State := s.finishFrame .decodeLen

/-- UnknownPacketType (R127, R164): the sentinel, zero-extended, and the distinct result. -/
def State.raiseUnknownType (s : State) : State :=
  { s with smp := { s.smp with dbgU16 := 0x00AA#16 } }.finishFrame .frameUnknown

/-- Rejected (R84, R167). -/
def State.raiseRejected (s : State) : State := s.emit .rejected

/-! ### The checksum engine -/

/-- Clear (R112). -/
def State.csClear (s : State) : State := { s with cse := { s.cse with acc := 0x00#8 } }

/-- Accumulate (R111). -/
def State.csAccumulate (s : State) (b : Byte) : State := { s with cse := { s.cse with acc := addByte s.cse.acc b } }

/-! ### The sequencers -/

/-- `H_STATE <- h`. -/
def State.setHState (s : State) (h : HState) : State := { s with hsm := { s.hsm with state := h } }

/-- `F_STATE <- f`. -/
def State.setFState (s : State) (f : FState) : State := { s with frm := { s.frm with state := f } }

/-- `F_MALF <- m` (R93, R95). -/
def State.setMalf (s : State) (m : Malf) : State := { s with frm := { s.frm with malf := m } }

/-! ### Reset -/

/-- Reset (R185): every register to its reset value; no channel operation and no result event (R187, R188), so the
environment's side is as it was. -/
def State.hardReset (s : State) : State :=
  { s with
    frm := State.reset.frm
    cse := State.reset.cse
    smp := State.reset.smp
    hsm := State.reset.hsm
    lastRes := State.reset.lastRes
    resValid := State.reset.resValid }

/-- The start of a step: the strobe of the step before falls, and the level of `rst` for this step is taken. -/
def State.beginStep (s : State) : State := { s.strobeLow with rst := s.rst.tail }

/-- The level of `rst` at this step (R89). -/
def State.rstNow (s : State) : Bool := s.rst.headD false

/-! ### The host's payload read port -/

/-- `pay_data` (R45): `PAY[pay_addr]` below `PAYLEN`, else 0x00. -/
def State.payData (s : State) (addr : BitVec 6) : Byte :=
  if addr.toNat < s.frm.payLen.toNat then Memory.read s.frm.pay addr.toNat else 0x00#8

/-- `PAY[0 .. PAYLEN)`, what the host and the decoder see of the buffer (R14, R45, R120). -/
def State.payload (s : State) : List Byte := Memory.bytes s.frm.pay s.frm.payLen.toNat

end Sys2Proof.Machine
end

