-- ==== Sys2Proof/Machine/Decoder.lean ====
section
/-! DEFINITION. The Payload Decoder (43_payload_decoder.md): the five decode rules and their rows' meanings. A row's meaning is
the part of the completing step that R100 gives to `Decode`: the Sample subset, the result, and `F_STATE <- F_IDLE` (DESIGN
CHOICE, log 22). -/

namespace Sys2Proof.Machine

/-- Type 1 (R121): length 6, else DecodeLength (R128). -/
def State.decodeAttQ7 (s : State) : State :=
  if s.frm.payLen.toNat = 6 then
    { s with smp := { s.smp with
        roll := q7ToF32 (Memory.half s.frm.pay 0)
        pitch := q7ToF32 (Memory.half s.frm.pay 2)
        yaw := q7ToF32 (Memory.half s.frm.pay 4) } }.finishFrame .frameOk
  else s.raiseDecodeLen

/-- Type 2 (R123): length 12, else DecodeLength (R128). -/
def State.decodeAttF32 (s : State) : State :=
  if s.frm.payLen.toNat = 12 then
    { s with smp := { s.smp with
        roll := Memory.quad s.frm.pay 0
        pitch := Memory.quad s.frm.pay 4
        yaw := Memory.quad s.frm.pay 8 } }.finishFrame .frameOk
  else s.raiseDecodeLen

/-- Type 11 (R125): length 2, else DecodeLength (R128). -/
def State.decodeDbgU16 (s : State) : State :=
  if s.frm.payLen.toNat = 2 then
    { s with smp := { s.smp with dbgU16 := Memory.half s.frm.pay 0 } }.finishFrame .frameOk
  else s.raiseDecodeLen

/-- Type 12 (R126): length 4, else DecodeLength (R128). -/
def State.decodeDbgF32 (s : State) : State :=
  if s.frm.payLen.toNat = 4 then
    { s with smp := { s.smp with dbgF32 := Memory.quad s.frm.pay 0 } }.finishFrame .frameOk
  else s.raiseDecodeLen

/-- Any other type (R127): any length, the sentinel. -/
def State.decodeUnknown (s : State) : State := s.raiseUnknownType

/-- `Decode(T, PAY[0 .. PAYLEN))` with the emission of its result (R100, R120): a closed five-way case on all 16 bits of
the type (R132). -/
def State.decodeFrameAs (s : State) (t : Half) : State :=
  if t = 0x0001#16 then s.decodeAttQ7
  else if t = 0x0002#16 then s.decodeAttF32
  else if t = 0x000B#16 then s.decodeDbgU16
  else if t = 0x000C#16 then s.decodeDbgF32
  else s.decodeUnknown

/-- `PT_ATT_Q7` (R121). -/
def execPtAttQ7 (s : State) : Outcome := .next s.decodeAttQ7

/-- `PT_ATT_F32` (R123). -/
def execPtAttF32 (s : State) : Outcome := .next s.decodeAttF32

/-- `PT_DBG_U16` (R125). -/
def execPtDbgU16 (s : State) : Outcome := .next s.decodeDbgU16

/-- `PT_DBG_F32` (R126). -/
def execPtDbgF32 (s : State) : Outcome := .next s.decodeDbgF32

/-- `PT_UNKNOWN` (R127); the type code itself is not looked at further. -/
def execPtUnknown (_ : Half) (s : State) : Outcome := .next s.decodeUnknown

end Sys2Proof.Machine
end

