-- ==== Sys2Proof/Machine/Framer.lean ====
section
/-! DEFINITION. The Packet Framer (41_packet_framer.md): start of a read, the byte steps, validation, advance, completion, the
meanings of the FSTEP rows, and FRAME, the run of the framer over a whole frame (log 26). A row outside its own state changes
nothing (DESIGN CHOICE, log 8). -/

namespace Sys2Proof.Machine

/-- Start of read (R91). -/
def State.startRead (s : State) : State :=
  { s with
    frm := { s.frm with
      pktNBytes := 0x0000#16
      pktType := 0x0000#16
      bufNBytes := 0x0000#16
      payLen := 0#6
      rxCsum := 0x00#8
      malf := .none
      idx := 0x0000#16
      state := .len0 } }.csClear

/-- Completion (R100): malformed, then checksum mismatch, then the decoder (R171). -/
def State.complete (s : State) : State :=
  if s.frm.malf ≠ .none then s.raiseMalformed
  else if s.cse.acc ≠ s.frm.rxCsum then s.raiseCsumMismatch
  else s.decodeFrameAs s.frm.pktType

/-- Advance (R99), after the step's own writes. -/
def State.advance (s : State) : State :=
  if s.frm.idx.toNat + 1 = s.frm.pktNBytes.toNat then s.complete
  else { s with frm := { s.frm with idx := s.frm.idx + 1#16 } }

/-- Validation (R95) on the complete `BUF_NBYTES`. -/
def State.validateHeader (s : State) : State :=
  match validate s.frm.pktNBytes s.frm.bufNBytes with
  | some m => s.setMalf m
  | none => s

/-- The byte of step `F_LEN0` (R92). -/
def State.len0Byte (b : Byte) (s : State) : State :=
  { s with frm := { s.frm with pktNBytes := beHalf b 0x00#8, state := .len1 } }

/-- The byte of step `F_LEN1` (R93). -/
def State.len1Byte (b : Byte) (s : State) : State :=
  let p : Half := beHalf (hiByte s.frm.pktNBytes) b
  let t : State := { s with frm := { s.frm with pktNBytes := p } }
  if p = 0#16 then (t.setMalf .hdrTrunc).complete
  else
    let u : State := if p.toNat < 4 then t.setMalf .hdrTrunc else t
    { u with frm := { u.frm with idx := 0#16, state := .body } }

/-- The register a header byte goes to (R94), with the validation at index 3 (R95). -/
def State.headerByte (b : Byte) (s : State) : State :=
  if s.frm.idx = 0#16 then { s with frm := { s.frm with pktType := beHalf b 0x00#8 } }
  else if s.frm.idx = 1#16 then { s with frm := { s.frm with pktType := beHalf (hiByte s.frm.pktType) b } }
  else if s.frm.idx = 2#16 then { s with frm := { s.frm with bufNBytes := beHalf b 0x00#8 } }
  else { s with frm := { s.frm with bufNBytes := beHalf (hiByte s.frm.bufNBytes) b } }.validateHeader

/-- The writes of a payload byte (R96). -/
def State.storePayload (b : Byte) (s : State) : State :=
  { s with frm := { s.frm with
      pay := Memory.write s.frm.pay (s.frm.idx.toNat - 4) b
      payLen := BitVec.ofNat 6 (s.frm.idx.toNat - 3) } }.csAccumulate b

/-- The byte of step `F_BODY`: header (R94), drain (R98), payload (R96) or checksum (R97), each followed by R99. -/
def State.bodyByte (b : Byte) (s : State) : Outcome :=
  if s.frm.idx.toNat ≤ 3 then .next (s.headerByte b).advance
  else if s.frm.malf ≠ .none then .next s.advance
  else if s.frm.idx.toNat < 4 + s.frm.bufNBytes.toNat then
    if s.frm.idx.toNat - 4 < payCap then .next (s.storePayload b).advance
    else .fault .payIndex
  else if s.frm.idx.toNat = 4 + s.frm.bufNBytes.toNat then
    .next { s with frm := { s.frm with rxCsum := b } }.advance
  else .fault .framerNoRule

/-- A byte of the received stream arriving at the framer's step (R103). -/
def State.framerByte (b : Byte) (s : State) : Outcome :=
  match s.frm.state with
  | .idle => .next s
  | .len0 => .next (s.len0Byte b)
  | .len1 => .next (s.len1Byte b)
  | .body => s.bodyByte b

/-- The host's command at the port is `RD_FRAME`: the commands after it. -/
def State.presentsRdFrame (s : State) : Option (List CmdWord) :=
  match s.cmds with
  | w :: rest =>
    match decodeCmd w with
    | .rdFrame _ => some rest
    | _ => none
  | [] => none

/-- `F_IDLE` (R91, R103): an `RD_FRAME` at the port is accepted when `BUSY = 0`; otherwise nothing changes
(log 23). -/
def execFIdle (s : State) : Outcome :=
  if s.busy then .next s
  else
    match s.presentsRdFrame with
    | some rest => .next ({ s with cmds := rest }.log .rdFrame).startRead
    | none => .next s

/-- `F_LEN0` (R92). -/
def execFLen0 (s : State) : Outcome :=
  if s.frm.state = .len0 then s.onRead fun b t => .next (t.len0Byte b) else .next s

/-- `F_LEN1` (R93). -/
def execFLen1 (s : State) : Outcome :=
  if s.frm.state = .len1 then s.onRead fun b t => .next (t.len1Byte b) else .next s

/-- `F_BODY` (R94 to R99). -/
def execFBody (s : State) : Outcome :=
  if s.frm.state = .body then s.onRead fun b t => t.bodyByte b else .next s

/-- The framer run over received bytes, one step a byte, until it is idle (R103); bytes after that stay unread. -/
def State.feed : List Byte → State → Outcome
  | [], s => .next s
  | b :: bs, s =>
    if s.frm.state = .idle then .next s
    else
      match (s.log (.rx b)).framerByte b with
      | .next t => State.feed bs t
      | .fault r => .fault r
      | .refused r => .refused r

/-- `FRAME` (R61, R90, R101): with a read in flight at its first byte (`F_LEN0`), the framer's run over the frame's
`2 + P` bytes; with no read in flight nothing reads it (R42). -/
def execFrame (p : Half) (body : List Byte) (s : State) : Outcome :=
  if s.frm.state = .len0 then s.feed (hiByte p :: loByte p :: body) else .next s

end Sys2Proof.Machine
end

