-- ==== Sys2Proof/Machine/Handshake.lean ====
section
/-! DEFINITION. The Handshake State Machine (44_handshake.md): start, the thirteen steps, the lock action, and the control
characters as they are sent and received. A row outside its own state changes nothing (DESIGN CHOICE, log 8). -/

namespace Sys2Proof.Machine

/-- Start (R136). -/
def State.startHandshake (s : State) : State :=
  { s with hsm := { s.hsm with echo := 0x00#8, echoV := false, state := .initClr } }

/-- Lock action (R149). -/
def State.lock (s : State) : State :=
  { s with hsm := { s.hsm with locked := true, echo := 0x00#8, echoV := false, state := .locked } }.emit .hsLocked

/-- `ECHO <- r ; ECHO_V <- 1` and the next state (R145, R147). -/
def State.storeEcho (s : State) (r : Byte) (h : HState) : State :=
  { s with hsm := { s.hsm with echo := r, echoV := true, state := h } }

/-- The first reply (R145): lock, retry, or HandshakeFailure (R166), the internal event of the trace. -/
def State.rxEchoByte (r : Byte) (s : State) : State :=
  match classify s.ctl r with
  | .isConfirm => s.lock
  | .isRetry => s.storeEcho r .rtyTx
  | .isOther => (s.storeEcho r .initClr).log .handshakeFailure

/-- A reply in the confirm retry loop (R147). -/
def State.rtyRxByte (r : Byte) (s : State) : State :=
  if r = s.ctl.confirm then s.lock else s.storeEcho r .rtyTx

/-- A control character taken from the channel by the handshake: by R145 or R147 in the two reading states; in every other
state the handshake reads nothing and nothing changes (R151, log 25). -/
def State.receiveCtl (r : Byte) (s : State) : State :=
  match s.hsm.state with
  | .rxEcho => s.rxEchoByte r
  | .rtyRx => s.rtyRxByte r
  | .idle | .initClr | .initEn | .txInit | .chkOvf | .flush | .chkAbd | .disAbd | .txConf | .rtyTx | .locked => s

/-- `ChWrite(INIT_BYTE)` of step `H_TX_INIT` (R139). -/
def State.sendInit (s : State) : State := (s.chWrite s.ctl.init).setHState .chkOvf

/-- `ChWrite(CONFIRM_BYTE)` of steps `H_TX_CONF` (R144) and `H_RTY_TX` (R146). -/
def State.sendConfirm (s : State) (h : HState) : State := (s.chWrite s.ctl.confirm).setHState h

/-- The host's command at the port is `HS_START`: the commands after it. -/
def State.presentsHsStart (s : State) : Option (List CmdWord) :=
  match s.cmds with
  | w :: rest =>
    match decodeCmd w with
    | .hsStart _ => some rest
    | _ => none
  | [] => none

/-- `H_IDLE` (R136): an `HS_START` at the port is accepted when `BUSY = 0`; otherwise nothing changes. -/
def execHIdle (s : State) : Outcome :=
  if s.busy ∨ s.hsm.state ≠ .idle then .next s
  else
    match s.presentsHsStart with
    | some rest => .next ({ s with cmds := rest }.log .hsStart).startHandshake
    | none => .next s

/-- `H_INIT_CLR` (R137). -/
def execHInitClr (s : State) : Outcome :=
  .next (if s.hsm.state = .initClr then s.chAbdClear.setHState .initEn else s)

/-- `H_INIT_EN` (R138). -/
def execHInitEn (s : State) : Outcome :=
  .next (if s.hsm.state = .initEn then s.chAbdEnable.setHState .txInit else s)

/-- `H_TX_INIT` (R139). -/
def execHTxInit (s : State) : Outcome :=
  .next (if s.hsm.state = .txInit then s.sendInit else s)

/-- `H_CHK_OVF` (R140). -/
def execHChkOvf (s : State) : Outcome :=
  .next (if s.hsm.state = .chkOvf then s.chOvf.2.setHState (if s.chOvf.1 then .flush else .chkAbd) else s)

/-- `H_FLUSH` (R141). -/
def execHFlush (s : State) : Outcome :=
  .next (if s.hsm.state = .flush then s.chFlush.setHState .txInit else s)

/-- `H_CHK_ABD` (R142). -/
def execHChkAbd (s : State) : Outcome :=
  .next (if s.hsm.state = .chkAbd then s.chAbd.2.setHState (if s.chAbd.1 then .disAbd else .txInit) else s)

/-- `H_DIS_ABD` (R143). -/
def execHDisAbd (s : State) : Outcome :=
  .next (if s.hsm.state = .disAbd then s.chAbdDisable.setHState .txConf else s)

/-- `H_TX_CONF` (R144). -/
def execHTxConf (s : State) : Outcome :=
  .next (if s.hsm.state = .txConf then s.sendConfirm .rxEcho else s)

/-- `H_RX_ECHO` (R145). -/
def execHRxEcho (s : State) : Outcome :=
  if s.hsm.state = .rxEcho then s.onRead fun r t => .next (t.rxEchoByte r) else .next s

/-- `H_RTY_TX` (R146). -/
def execHRtyTx (s : State) : Outcome :=
  .next (if s.hsm.state = .rtyTx then s.sendConfirm .rtyRx else s)

/-- `H_RTY_RX` (R147). -/
def execHRtyRx (s : State) : Outcome :=
  if s.hsm.state = .rtyRx then s.onRead fun r t => .next (t.rtyRxByte r) else .next s

/-- `H_LOCKED` (R150): terminal; an `HS_START` at the port is rejected (R84), otherwise nothing changes. -/
def execHLocked (s : State) : Outcome :=
  if s.busy ∨ s.hsm.state ≠ .locked then .next s
  else
    match s.presentsHsStart with
    | some rest => .next ({ s with cmds := rest }.log .hsStart).raiseRejected
    | none => .next s

/-- `INIT` (R66): sent in `H_TX_INIT` (R139); received, it is classified as any byte is (R148). -/
def execCtlInit (s : State) : Outcome :=
  .next (if s.hsm.state = .txInit then s.sendInit else s.receiveCtl s.ctl.init)

/-- `CONFIRM` (R66): sent in `H_TX_CONF` (R144) and `H_RTY_TX` (R146); received, it locks (R145, R147, R149). -/
def execCtlConfirm (s : State) : Outcome :=
  .next (if s.hsm.state = .txConf then s.sendConfirm .rxEcho
    else if s.hsm.state = .rtyTx then s.sendConfirm .rtyRx
    else s.receiveCtl s.ctl.confirm)

/-- `FAIL` (R66), never sent. -/
def execCtlFail (s : State) : Outcome := .next (s.receiveCtl s.ctl.fail)

/-- `RAWLOCK` (R66), never sent. -/
def execCtlRawlock (s : State) : Outcome := .next (s.receiveCtl s.ctl.rawlock)

/-- `OTHER` (R66), never sent. -/
def execCtlOther (v : Byte) (s : State) : Outcome := .next (s.receiveCtl v)

end Sys2Proof.Machine
end

