-- ==== Sys2Proof/Machine/Commands.lean ====
section
/-! DEFINITION. The host's four commands (40_commands.md R80 to R84). A command is accepted if and only if `BUSY = 0`; while
`BUSY = 1` nothing changes (R80, R87). `cmd_data` is ignored by every command but `CS_ADD` (R67). -/

namespace Sys2Proof.Machine

/-- `CS_CLR` (R81). -/
def execCsClr (_ : Byte) (s : State) : Outcome :=
  .next (if s.busy then s else (s.log .csClr).csClear.emit .csDone)

/-- `CS_ADD b` (R82). -/
def execCsAdd (b : Byte) (s : State) : Outcome :=
  .next (if s.busy then s else ((s.log (.csAdd b)).csAccumulate b).emit .csDone)

/-- `RD_FRAME` (R83): not gated on `LOCKED`. -/
def execRdFrame (_ : Byte) (s : State) : Outcome :=
  .next (if s.busy then s else (s.log .rdFrame).startRead)

/-- `HS_START` (R84): rejected once locked. -/
def execHsStart (_ : Byte) (s : State) : Outcome :=
  .next (if s.busy then s
    else if s.hsm.state = .locked then (s.log .hsStart).raiseRejected
    else (s.log .hsStart).startHandshake)

end Sys2Proof.Machine
end

