-- ==== Sys2Proof/Machine/Results.lean ====
section
/-! DEFINITION. The result codes (30_encoding.md R68) and malformed causes (R69) as parts of a step: a result row is the emission
of that result together with the registers R160 lists for its error kind, a cause row is the flagging of `F_MALF` (DESIGN
CHOICE, logs 1, 16, 22). -/

namespace Sys2Proof.Machine

/-- `RES_NONE` (R68): the value reset leaves in `LAST_RES` (R33, R185); it is never emitted, so there is no result event
(log 15). -/
def execResNone (s : State) : Outcome := .next { s with lastRes := .none }

/-- `RES_FRAME_OK` (R100). -/
def execResFrameOk (s : State) : Outcome := .next (s.finishFrame .frameOk)

/-- `RES_FRAME_UNKNOWN` (R164). -/
def execResFrameUnknown (s : State) : Outcome := .next s.raiseUnknownType

/-- `RES_CSUM_MISMATCH` (R162). -/
def execResCsumMismatch (s : State) : Outcome := .next s.raiseCsumMismatch

/-- `RES_MALFORMED` (R163). -/
def execResMalformed (s : State) : Outcome := .next s.raiseMalformed

/-- `RES_DECODE_LEN` (R165). -/
def execResDecodeLen (s : State) : Outcome := .next s.raiseDecodeLen

/-- `RES_HS_LOCKED` (R149). -/
def execResHsLocked (s : State) : Outcome := .next s.lock

/-- `RES_REJECTED` (R167). -/
def execResRejected (s : State) : Outcome := .next s.raiseRejected

/-- `RES_CS_DONE` (R81, R82, R85). -/
def execResCsDone (s : State) : Outcome := .next (s.emit .csDone)

/-- `RES_RSVD_TIMEOUT` (R168): held for ChannelTimeout, never emitted. -/
def execResRsvdTimeout (_ : State) : Outcome := .refused (.neverEmitted "RES_RSVD_TIMEOUT")

/-- `RES_RSVD_BUDGET` (R169): held for RetryBudgetExceeded, never emitted. -/
def execResRsvdBudget (_ : State) : Outcome := .refused (.neverEmitted "RES_RSVD_BUDGET")

/-- `MF_NONE` (R69, R91): no cause. -/
def execMfNone (s : State) : Outcome := .next (s.setMalf .none)

/-- `MF_HDR_TRUNC` (R93). -/
def execMfHdrTrunc (s : State) : Outcome := .next (s.setMalf .hdrTrunc)

/-- `MF_CAPACITY` (R95). -/
def execMfCapacity (s : State) : Outcome := .next (s.setMalf .capacity)

/-- `MF_OVERRUN` (R95). -/
def execMfOverrun (s : State) : Outcome := .next (s.setMalf .overrun)

/-- `MF_SLACK` (R95). -/
def execMfSlack (s : State) : Outcome := .next (s.setMalf .slack)

end Sys2Proof.Machine
end

