-- ==== Sys2Proof/Machine/Dispatch.lean ====
section
/-! DEFINITION. One arm per row of the opcode table. -/

namespace Sys2Proof.Machine

def exec (i : Instr) (s : State) : Host.Outcome State Fault Refusal :=
  match i with
  | .csClr data => Sys2Proof.Machine.execCsClr data s
  | .csAdd b => Sys2Proof.Machine.execCsAdd b s
  | .rdFrame data => Sys2Proof.Machine.execRdFrame data s
  | .hsStart data => Sys2Proof.Machine.execHsStart data s
  | .frame p body => Sys2Proof.Machine.execFrame p body s
  | .ptAttQ7 => Sys2Proof.Machine.execPtAttQ7 s
  | .ptAttF32 => Sys2Proof.Machine.execPtAttF32 s
  | .ptDbgU16 => Sys2Proof.Machine.execPtDbgU16 s
  | .ptDbgF32 => Sys2Proof.Machine.execPtDbgF32 s
  | .ptUnknown t => Sys2Proof.Machine.execPtUnknown t s
  | .ctlInit => Sys2Proof.Machine.execCtlInit s
  | .ctlConfirm => Sys2Proof.Machine.execCtlConfirm s
  | .ctlFail => Sys2Proof.Machine.execCtlFail s
  | .ctlRawlock => Sys2Proof.Machine.execCtlRawlock s
  | .ctlOther v => Sys2Proof.Machine.execCtlOther v s
  | .hIdle => Sys2Proof.Machine.execHIdle s
  | .hInitClr => Sys2Proof.Machine.execHInitClr s
  | .hInitEn => Sys2Proof.Machine.execHInitEn s
  | .hTxInit => Sys2Proof.Machine.execHTxInit s
  | .hChkOvf => Sys2Proof.Machine.execHChkOvf s
  | .hFlush => Sys2Proof.Machine.execHFlush s
  | .hChkAbd => Sys2Proof.Machine.execHChkAbd s
  | .hDisAbd => Sys2Proof.Machine.execHDisAbd s
  | .hTxConf => Sys2Proof.Machine.execHTxConf s
  | .hRxEcho => Sys2Proof.Machine.execHRxEcho s
  | .hRtyTx => Sys2Proof.Machine.execHRtyTx s
  | .hRtyRx => Sys2Proof.Machine.execHRtyRx s
  | .hLocked => Sys2Proof.Machine.execHLocked s
  | .fIdle => Sys2Proof.Machine.execFIdle s
  | .fLen0 => Sys2Proof.Machine.execFLen0 s
  | .fLen1 => Sys2Proof.Machine.execFLen1 s
  | .fBody => Sys2Proof.Machine.execFBody s
  | .resNone => Sys2Proof.Machine.execResNone s
  | .resFrameOk => Sys2Proof.Machine.execResFrameOk s
  | .resFrameUnknown => Sys2Proof.Machine.execResFrameUnknown s
  | .resCsumMismatch => Sys2Proof.Machine.execResCsumMismatch s
  | .resMalformed => Sys2Proof.Machine.execResMalformed s
  | .resDecodeLen => Sys2Proof.Machine.execResDecodeLen s
  | .resHsLocked => Sys2Proof.Machine.execResHsLocked s
  | .resRejected => Sys2Proof.Machine.execResRejected s
  | .resCsDone => Sys2Proof.Machine.execResCsDone s
  | .resRsvdTimeout => Sys2Proof.Machine.execResRsvdTimeout s
  | .resRsvdBudget => Sys2Proof.Machine.execResRsvdBudget s
  | .mfNone => Sys2Proof.Machine.execMfNone s
  | .mfHdrTrunc => Sys2Proof.Machine.execMfHdrTrunc s
  | .mfCapacity => Sys2Proof.Machine.execMfCapacity s
  | .mfOverrun => Sys2Proof.Machine.execMfOverrun s
  | .mfSlack => Sys2Proof.Machine.execMfSlack s

end Sys2Proof.Machine
end

