-- ==== Sys2Proof/Machine/Fetch.lean ====
section
/-! DEFINITION. Which row of the opcode table the next step is, read from the sequencers and the command port (10_state.md R19,
R20, R27; 40_commands.md R80), and how a given row is put where the next step finds it. -/

namespace Sys2Proof.Machine

/-- The row of an `H_STATE` value, by its code (R20). -/
def hstepRow (h : HState) : Instr :=
  match decodeHStep h.code with
  | some i => i
  | none => .hIdle

/-- The row the next step runs, and the state it runs in. A framer in flight is the framer's step; a handshake in flight is
the handshake's (both in flight is never reached, R30 (c), log 17); an idle block takes the command at the port off it
(R80); with no command it rests in `H_IDLE` or `H_LOCKED`. -/
def State.fetch (s : State) : Instr × State :=
  if s.frm.state ≠ .idle then (decodeFStep s.frm.state.code, s)
  else if s.hsm.state.active then (hstepRow s.hsm.state, s)
  else
    match s.cmds with
    | w :: rest => (decodeCmd w, { s with cmds := rest })
    | [] => (hstepRow s.hsm.state, s)

/-! ### Placing a row where the next step finds it (log 14) -/

/-- No reset at the next step. -/
def State.noReset (s : State) : State := { s with rst := if s.rstNow then false :: s.rst else s.rst }

/-- No handshake in flight. -/
def State.quiet (s : State) : State :=
  { s with hsm := { s.hsm with state := if s.hsm.state.active then .idle else s.hsm.state } }

/-- The channel has a byte for the next `ChRead()`. -/
def State.offer (s : State) (b : Byte) : State := { s with rx := some b :: s.rx }

/-- A command word at the port of an idle block. -/
def State.presentCmd (s : State) (w : CmdWord) : State :=
  { (s.noReset.setFState .idle).quiet with cmds := w :: s.cmds }

/-- The framer at one of its states. -/
def State.presentFStep (s : State) (f : FState) : State := (s.noReset.setFState f).quiet

/-- The handshake at one of its states, with no command at the port. -/
def State.presentHStep (s : State) (h : HState) : State :=
  { (s.noReset.setFState .idle).setHState h with cmds := [] }

/-- The framer at the checksum byte of a good frame of type `t` with `n` payload bytes, the byte on the channel: the next
step completes the frame and decodes it as type `t`. -/
def State.presentType (s : State) (t : Half) (n : Nat) : State :=
  ({ s.presentFStep .body with frm :=
      { (s.presentFStep .body).frm with
        pktType := t, bufNBytes := BitVec.ofNat 16 n, pktNBytes := BitVec.ofNat 16 (n + 5), payLen := BitVec.ofNat 6 n,
        malf := .none, idx := BitVec.ofNat 16 (n + 4) } }).offer s.cse.acc

/-- `s` with the row `i` where the next step finds it. Rows of the spaces `RES` and `MF`, which no step fetches and no table
word decodes to (log 13), leave `s` as it is. -/
def State.present (i : Instr) (s : State) : State :=
  match i with
  | .csClr data => s.presentCmd (0b00#2 ++ data)
  | .csAdd b => s.presentCmd (0b01#2 ++ b)
  | .rdFrame data => s.presentCmd (0b10#2 ++ data)
  | .hsStart data => s.presentCmd (0b11#2 ++ data)
  | .frame p body =>
    { s.presentFStep .len0 with rx := (hiByte p :: loByte p :: body).map some ++ s.rx }
  | .ptAttQ7 => s.presentType 0x0001#16 6
  | .ptAttF32 => s.presentType 0x0002#16 12
  | .ptDbgU16 => s.presentType 0x000B#16 2
  | .ptDbgF32 => s.presentType 0x000C#16 4
  | .ptUnknown t => s.presentType t 0
  | .ctlInit => s.presentHStep .txInit
  | .ctlConfirm => (s.presentHStep .rxEcho).offer s.ctl.confirm
  | .ctlFail => (s.presentHStep .rxEcho).offer s.ctl.fail
  | .ctlRawlock => (s.presentHStep .rxEcho).offer s.ctl.rawlock
  | .ctlOther v => (s.presentHStep .rxEcho).offer v
  | .hIdle => s.presentHStep .idle
  | .hInitClr => s.presentHStep .initClr
  | .hInitEn => s.presentHStep .initEn
  | .hTxInit => s.presentHStep .txInit
  | .hChkOvf => s.presentHStep .chkOvf
  | .hFlush => s.presentHStep .flush
  | .hChkAbd => s.presentHStep .chkAbd
  | .hDisAbd => s.presentHStep .disAbd
  | .hTxConf => s.presentHStep .txConf
  | .hRxEcho => (s.presentHStep .rxEcho).offer 0x00#8
  | .hRtyTx => s.presentHStep .rtyTx
  | .hRtyRx => (s.presentHStep .rtyRx).offer 0x00#8
  | .hLocked => s.presentHStep .locked
  | .fIdle => { s.presentFStep .idle with cmds := [] }
  | .fLen0 => (s.presentFStep .len0).offer 0x00#8
  | .fLen1 => (s.presentFStep .len1).offer 0x00#8
  | .fBody => (s.presentFStep .body).offer 0x00#8
  | .resNone | .resFrameOk | .resFrameUnknown | .resCsumMismatch | .resMalformed | .resDecodeLen | .resHsLocked
  | .resRejected | .resCsDone | .resRsvdTimeout | .resRsvdBudget => s
  | .mfNone | .mfHdrTrunc | .mfCapacity | .mfOverrun | .mfSlack => s

end Sys2Proof.Machine
end

