-- ==== Sys2Proof/Machine/Step.lean ====
section
/-! DEFINITION. One step of the block: reset if `rst` is high at this step, else the row the sequencers and the command port
select (00_scope.md R8, 40_commands.md R89). -/

namespace Sys2Proof.Machine

/-- One step (R8): reset (R185) takes precedence over everything; otherwise the fetched row runs. -/
def step (s : State) : Host.Outcome State Fault Refusal :=
  if s.rstNow then .next s.beginStep.hardReset
  else exec s.beginStep.fetch.1 s.beginStep.fetch.2

/-- `s` with the instruction of a table word where the next step finds it (log 14). -/
def State.withFetchWord (s : State) (nbits w : Nat) : State :=
  match decodeTableWord nbits w with
  | some i => s.present i
  | none => s

end Sys2Proof.Machine
end

