-- ==== Sys2Proof/Machine/Ports.lean ====
section
/-! DEFINITION. The port level (20_memory.md R59, 40_commands.md R80, R85, R86, R89): the outputs as functions of the registers, and
a clock cycle as a stuttering refinement of `step` (log 19). -/

namespace Sys2Proof.Machine

/-- The input ports sampled at a rising edge of `clk`. -/
structure PortInputs where
  /-- `rst` (R89) -/
  rst : Bool
  /-- `cmd_valid` (R80) -/
  cmdValid : Bool
  /-- `cmd_op` (R80) -/
  cmdOp : BitVec 2
  /-- `cmd_data` (R80) -/
  cmdData : Byte
  /-- `rx_valid` (R59) -/
  rxValid : Bool
  /-- `rx_data` (R59) -/
  rxData : Byte
  /-- `tx_ready` (R59) -/
  txReady : Bool
  /-- `rx_ovf` (R59) -/
  rxOvf : Bool
  /-- `abd_done` (R59) -/
  abdDone : Bool
  deriving DecidableEq, Repr

/-- The outputs the host reads (R80, R85, R86), `pay_data` for the index it supplies. -/
structure HostOutputs where
  /-- `cmd_ready` -/
  cmdReady : Bool
  /-- `res_valid` -/
  resValid : Bool
  /-- `res_code` -/
  resCode : BitVec 4
  /-- `busy` -/
  busy : Bool
  /-- `locked` -/
  locked : Bool
  /-- `last_res` -/
  lastRes : BitVec 4
  /-- `frm_nbytes` -/
  frmNBytes : Half
  /-- `frm_type` -/
  frmType : Half
  /-- `frm_blen` -/
  frmBLen : Half
  /-- `frm_paylen` -/
  frmPayLen : BitVec 6
  /-- `frm_csum` -/
  frmCsum : Byte
  /-- `frm_malf` -/
  frmMalf : BitVec 3
  /-- `pay_data` -/
  payData : Byte
  /-- `cs_sum` -/
  csSum : Byte
  /-- `cnt_csum` -/
  cntCsum : Half
  /-- `roll` -/
  roll : Quad
  /-- `pitch` -/
  pitch : Quad
  /-- `yaw` -/
  yaw : Quad
  /-- `dbg_u16` -/
  dbgU16 : Half
  /-- `dbg_int` -/
  dbgInt : Half
  /-- `dbg_f32` -/
  dbgF32 : Quad
  deriving DecidableEq, Repr

/-- The host's outputs in a state (R80, R85, R86); reading them changes nothing. -/
def hostOutputs (payAddr : BitVec 6) (s : State) : HostOutputs where
  cmdReady := !s.busy
  resValid := s.resValid
  resCode := s.lastRes.code
  busy := s.busy
  locked := s.hsm.locked
  lastRes := s.lastRes.code
  frmNBytes := s.frm.pktNBytes
  frmType := s.frm.pktType
  frmBLen := s.frm.bufNBytes
  frmPayLen := s.frm.payLen
  frmCsum := s.frm.rxCsum
  frmMalf := s.frm.malf.code
  payData := s.payData payAddr
  csSum := s.cse.acc
  cntCsum := s.cse.cnt
  roll := s.smp.roll
  pitch := s.smp.pitch
  yaw := s.smp.yaw
  dbgU16 := s.smp.dbgU16
  dbgInt := s.smp.dbgInt
  dbgF32 := s.smp.dbgF32

/-- The outputs on the channel's side (R59). -/
structure ChannelOutputs where
  /-- `rx_ready` -/
  rxReady : Bool
  /-- `tx_valid` -/
  txValid : Bool
  /-- `tx_data`, meaningful while `tx_valid` is high -/
  txData : Byte
  /-- `rx_flush` -/
  rxFlush : Bool
  /-- `abd_en` -/
  abdEn : Bool
  /-- `abd_clr` -/
  abdClr : Bool
  deriving DecidableEq, Repr

/-- The state's operation is `ChRead` (R59). -/
def State.waitsRx (s : State) : Bool :=
  s.frm.state != .idle || s.hsm.state == .rxEcho || s.hsm.state == .rtyRx

/-- The state's operation is `ChWrite` (R59). -/
def State.waitsTx (s : State) : Bool :=
  s.frm.state == .idle && (s.hsm.state == .txInit || s.hsm.state == .txConf || s.hsm.state == .rtyTx)

/-- The channel-side outputs in a state (R59). -/
def channelOutputs (s : State) : ChannelOutputs where
  rxReady := s.waitsRx
  txValid := s.waitsTx
  txData := if s.hsm.state = .txInit then s.ctl.init else s.ctl.confirm
  rxFlush := s.frm.state == .idle && s.hsm.state == .flush
  abdEn := s.hsm.abdEn
  abdClr := s.frm.state == .idle && s.hsm.state == .initClr

/-- The environment's side of the state for one cycle: what the input ports offer at this edge. -/
def State.withPorts (s : State) (inp : PortInputs) : State :=
  { s with
    cmds := if inp.cmdValid then [(inp.cmdOp ++ inp.cmdData : BitVec (2 + 8))] else []
    rx := [if inp.rxValid then some inp.rxData else none]
    ovf := [inp.rxOvf]
    abd := [inp.abdDone]
    rst := [inp.rst] }

/-- One clock cycle (R89): a step of the abstract machine on what the ports offer; while a byte to send waits for `tx_ready`
no register changes (R59, R200). -/
def cycle (inp : PortInputs) (s : State) : Outcome :=
  if !inp.rst && s.waitsTx && !inp.txReady then .next (s.withPorts inp).beginStep
  else step (s.withPorts inp)

/-- No register of R10's table differs between two states. -/
def State.sameRegs (s t : State) : Bool :=
  s.frm == t.frm && s.cse == t.cse && s.smp == t.smp && s.hsm == t.hsm && s.lastRes == t.lastRes

end Sys2Proof.Machine
end

