-- ==== Sys2Proof/Safety.lean ====
section
/-! DEFINITION. What counts as a legal state: the invariants of 10_state.md R30 and the stronger invariant every step keeps;
when the block is stuck (00_scope.md section 6); and the real number a binary32 pattern stands for (R17). -/

namespace Sys2Proof.Machine

/-- The invariants of R30, (a) to (g). -/
structure SpecInv (s : State) : Prop where
  /-- (a) -/
  payLenCap : s.frm.payLen.toNat ≤ 50
  /-- (b) -/
  lockedIff : s.hsm.locked = true ↔ s.hsm.state = .locked
  /-- (c) -/
  disjoint : ¬ (s.frm.state ≠ .idle ∧ s.hsm.state ≠ .idle ∧ s.hsm.state ≠ .locked)
  /-- (d) -/
  bodyIdx : s.frm.state = .body → s.frm.idx.toNat < s.frm.pktNBytes.toNat ∧ 1 ≤ s.frm.pktNBytes.toNat
  /-- (e) -/
  bodyGood : s.frm.malf = .none → s.frm.state = .body → 4 ≤ s.frm.idx.toNat →
    s.frm.bufNBytes.toNat ≤ 50 ∧ s.frm.pktNBytes.toNat = s.frm.bufNBytes.toNat + 5 ∧
    s.frm.payLen.toNat = min (s.frm.idx.toNat - 4) s.frm.bufNBytes.toNat ∧ s.cse.acc = checksum s.payload
  /-- (f) -/
  readBad : s.frm.state ≠ .idle → s.frm.malf ≠ .none →
    s.frm.payLen = 0#6 ∧ s.cse.acc = 0#8 ∧ s.frm.rxCsum = 0#8
  /-- (g) -/
  echoClear : s.hsm.state = .idle ∨ s.hsm.state = .locked → s.hsm.echoV = false

/-- The handshake states in which auto-baud detection is enabled by the block (R138, R143). -/
def HState.detecting (h : HState) : Bool :=
  h == .txInit || h == .chkOvf || h == .flush || h == .chkAbd || h == .disAbd

/-- The invariant every step keeps: R30 with what its induction needs, the canonical form of `PAY`, `DBG_INT` at its reset
value (R18), `ABD_EN` the mirror it is meant to be (R23), and no reserved result in `LAST_RES` (R68). -/
structure Inv (s : State) : Prop extends SpecInv s where
  /-- the payload buffer's canonical form -/
  payWf : Memory.wf s.frm.pay = true
  /-- nothing of the frame is stored while its length field is read -/
  lenStart : s.frm.state = .len0 ∨ s.frm.state = .len1 →
    s.frm.malf = .none ∧ s.frm.payLen = 0#6 ∧ s.cse.acc = 0#8 ∧ s.frm.rxCsum = 0#8
  /-- nothing is stored while the header is read, and only `P < 4` has been flagged (R93) -/
  headStart : s.frm.state = .body → s.frm.idx.toNat ≤ 3 →
    s.frm.payLen = 0#6 ∧ s.cse.acc = 0#8 ∧
    (s.frm.malf = .none ∧ 4 ≤ s.frm.pktNBytes.toNat ∨ s.frm.malf = .hdrTrunc ∧ s.frm.pktNBytes.toNat < 4)
  /-- the checksum byte is the last one -/
  bodyRx : s.frm.state = .body → s.frm.rxCsum = 0#8
  /-- R18 -/
  dbgInt : s.smp.dbgInt = 0#16
  /-- R23 -/
  abdMirror : s.hsm.abdEn = s.hsm.state.detecting
  /-- R68 -/
  noReserved : s.lastRes.reserved = false

/-- The Frame registers as the start of a read leaves them (R91), before the first byte. -/
def State.readStarted (s : State) : Prop :=
  s.frm = { pktNBytes := 0#16, pktType := 0#16, bufNBytes := 0#16, pay := s.frm.pay, payLen := 0#6, rxCsum := 0#8,
            malf := .none, state := .len0, idx := 0#16 } ∧ s.cse.acc = 0#8

/-- The block has no enabled step: it waits on the channel for a byte (00_scope.md section 6, R47, R193). -/
def State.stuck (s : State) : Bool := s.waitsRx && (s.chRead).isNone

/-- The events that are channel operations (R8, R46 to R53). -/
def Event.isChannelOp : Event → Bool
  | .rx _ | .tx _ | .ovf _ | .flush | .abd _ | .abdEn | .abdDis | .abdClr => true
  | .csClr | .csAdd _ | .rdFrame | .hsStart | .handshakeFailure | .result _ => false

/-- The bytes a trace transmits, in order (R55). -/
def sentBytes (tr : List Event) : List Byte :=
  tr.filterMap fun e => match e with
    | .tx b => some b
    | .csClr | .csAdd _ | .rdFrame | .hsStart | .rx _ | .ovf _ | .flush | .abd _ | .abdEn | .abdDis | .abdClr
    | .handshakeFailure | .result _ => none

/-- Several rows run one after another, as a host's program of commands is (R72), up to the first that stops. -/
def execAll : List Instr → State → Outcome
  | [], s => .next s
  | i :: is, s =>
    match exec i s with
    | .next t => execAll is t
    | .fault r => .fault r
    | .refused r => .refused r

/-- The number a binary32 pattern with `0 < e < 255`, or the pattern of +0.0, stands for:
`(-1)^s * (1 + f / 2^23) * 2^(e - 127)` (R17; the layout is the spec's own general knowledge, 93_implementation_defined.md
section 2). -/
def f32Value (v : Quad) : ℚ :=
  if v = 0#32 then 0
  else
    let sign : ℚ := if v.msb then -1 else 1
    let e : Nat := (v.extractLsb' 23 8).toNat
    let f : Nat := (v.extractLsb' 0 23).toNat
    sign * (1 + (f : ℚ) / 2 ^ 23) * ((2 : ℚ) ^ e / 2 ^ 127)

end Sys2Proof.Machine
end

