-- ==== Sys2Proof/Certificates/Slice0/Obligations.lean ====
section
/-! DEFINITION. The statements about the block, from the numbered rules of spec/. -/

open Sys2Proof Sys2Proof.Machine Host

/-! ### Reset -/

/-- R33, R185: the reset value of every register, as R10's table gives it, and the derived `BUSY`. -/
def Obligations.ResetLeavesTableValues : Prop :=
  State.reset.frm = { pktNBytes := 0x0000#16, pktType := 0x0000#16, bufNBytes := 0x0000#16, pay := [], payLen := 0#6,
                      rxCsum := 0x00#8, malf := .none, state := .idle, idx := 0x0000#16 } ∧
  (∀ k, Memory.read State.reset.frm.pay k = 0x00#8) ∧
  State.reset.cse = { acc := 0x00#8, cnt := 0x0000#16 } ∧
  State.reset.smp = { roll := 0#32, pitch := 0#32, yaw := 0#32, dbgU16 := 0#16, dbgInt := 0#16, dbgF32 := 0#32 } ∧
  State.reset.hsm = { state := .idle, locked := false, echo := 0x00#8, echoV := false, abdEn := false } ∧
  State.reset.lastRes.code = 0x0#4 ∧ State.reset.busy = false

/-- R185, R187, R188: a step with `rst` high puts every register at its reset value whatever the block was doing, adds no
event (no channel operation, no result), and leaves the channel's bytes and the host's commands where they are. -/
def Obligations.ResetEndsAnyCommand : Prop :=
  ∀ s : State, s.rst.head? = some true →
    ∃ t, step s = .next t ∧
      t.frm = State.reset.frm ∧ t.cse = State.reset.cse ∧ t.smp = State.reset.smp ∧ t.hsm = State.reset.hsm ∧
      t.lastRes = .none ∧ t.resValid = false ∧ t.busy = false ∧
      (∀ a, (hostOutputs a t).cmdReady = true) ∧
      (channelOutputs t).rxReady = false ∧ (channelOutputs t).txValid = false ∧ (channelOutputs t).rxFlush = false ∧
      (channelOutputs t).abdClr = false ∧ (channelOutputs t).abdEn = false ∧
      t.trace = s.trace ∧ t.rx = s.rx ∧ t.reads = s.reads ∧ t.ovf = s.ovf ∧ t.abd = s.abd ∧ t.polls = s.polls ∧
      t.cmds = s.cmds ∧ t.ctl = s.ctl

/-! ### The host's commands -/

/-- R81, R112: `CS_CLR`. -/
def Obligations.CsClrClearsTheSum : Prop :=
  (∀ d : Byte, decodeCmd (0b00#2 ++ d) = .csClr d) ∧
  ∀ (d : Byte) (s : State), s.busy = false →
    ∃ t, exec (.csClr d) s = .next t ∧
      t = { s with cse := { s.cse with acc := 0x00#8 }, lastRes := .csDone, resValid := true,
                   trace := s.trace ++ [.csClr, .result .csDone] } ∧ t.busy = false

/-- R82: `CS_ADD b`; the carry out of bit 7 is discarded, no Frame register is touched, and a later `RD_FRAME` clears the sum. -/
def Obligations.CsAddAccumulates : Prop :=
  (∀ b : Byte, decodeCmd (0b01#2 ++ b) = .csAdd b) ∧
  ∀ (b : Byte) (s : State), s.busy = false →
    ∃ t, exec (.csAdd b) s = .next t ∧
      t = { s with cse := { s.cse with acc := BitVec.ofNat 8 ((s.cse.acc.toNat + b.toNat) % 256) }, lastRes := .csDone,
                   resValid := true, trace := s.trace ++ [.csAdd b, .result .csDone] } ∧ t.busy = false ∧
      ∀ d, ∃ u, exec (.rdFrame d) t = .next u ∧ u.cse.acc = 0x00#8

/-- R83, R91: `RD_FRAME` is accepted whenever `BUSY = 0`, whatever `LOCKED` is, and starts a read: the Frame registers and
`CS_ACC` are cleared, `PAY`, the Sample, `CNT_CSUM` and `LAST_RES` are not touched, and `BUSY` is 1. -/
def Obligations.RdFrameStartsARead : Prop :=
  (∀ d : Byte, decodeCmd (0b10#2 ++ d) = .rdFrame d) ∧
  ∀ (d : Byte) (s : State), s.busy = false →
    ∃ t, exec (.rdFrame d) s = .next t ∧
      t = { s with
        frm := { pktNBytes := 0x0000#16, pktType := 0x0000#16, bufNBytes := 0x0000#16, pay := s.frm.pay, payLen := 0#6,
                 rxCsum := 0x00#8, malf := .none, state := .len0, idx := 0x0000#16 },
        cse := { s.cse with acc := 0x00#8 }, trace := s.trace ++ [.rdFrame] } ∧ t.busy = true

/-- R84, R136, R167: `HS_START` starts the handshake from `H_IDLE` and is rejected in `H_LOCKED`, with no change but
`LAST_RES`. -/
def Obligations.HsStartStartsOrIsRejected : Prop :=
  (∀ d : Byte, decodeCmd (0b11#2 ++ d) = .hsStart d) ∧
  ∀ (d : Byte) (s : State), s.busy = false →
    (s.hsm.state = .idle →
      ∃ t, exec (.hsStart d) s = .next t ∧
        t = { s with hsm := { s.hsm with echo := 0x00#8, echoV := false, state := .initClr },
                     trace := s.trace ++ [.hsStart] } ∧ t.busy = true) ∧
    (s.hsm.state = .locked →
      exec (.hsStart d) s = .next { s with lastRes := .rejected, resValid := true,
                                           trace := s.trace ++ [.hsStart, .result .rejected] })

/-- R80, R87: a command at the port is accepted in one step if and only if `BUSY = 0`: the accepting step takes it off the port
and performs no channel operation; while `BUSY = 1` the four commands change nothing, `cmd_ready` is low, and a step leaves
the host's commands at the port. -/
def Obligations.CommandsAreAcceptedIffNotBusy : Prop :=
  ∀ s : State,
    (s.busy = false → (∀ a, (hostOutputs a s).cmdReady = true) ∧
      ∀ w rest, s.cmds = w :: rest → s.rst.head? ≠ some true →
        ∃ t, step s = .next t ∧ t.cmds = rest ∧ t.rx = s.rx ∧ t.reads = s.reads ∧ t.ovf = s.ovf ∧ t.abd = s.abd ∧ t.polls = s.polls ∧
          t.trace.filter Event.isChannelOp = s.trace.filter Event.isChannelOp) ∧
    (s.busy = true →
      (∀ d, exec (.csClr d) s = .next s) ∧ (∀ b, exec (.csAdd b) s = .next s) ∧ (∀ d, exec (.rdFrame d) s = .next s) ∧
      (∀ d, exec (.hsStart d) s = .next s) ∧ (∀ a, (hostOutputs a s).cmdReady = false) ∧
      ∀ t, step s = .next t → t.cmds = s.cmds)

/-! ### The framer -/

/-- R92, R93: the two bytes of the length field. On `P = {PKT_NBYTES[15:8], b}`, with `P = 0` the read ends malformed, else the
body follows, flagged where `P < 4`. -/
def Obligations.LengthFieldIsAssembled : Prop :=
  ∀ (s : State) (b : Byte) (rest : List (Option Byte)), s.rx = some b :: rest →
    (s.frm.state = .len0 → exec .fLen0 s = .next { s with
      frm := { s.frm with pktNBytes := b ++ 0x00#8, state := .len1 }, rx := rest, trace := s.trace ++ [.rx b] }) ∧
    (s.frm.state = .len1 → ∀ p : Half, p = s.frm.pktNBytes.extractLsb' 8 8 ++ b →
      (p = 0#16 → exec .fLen1 s = .next { s with
        frm := { s.frm with pktNBytes := p, malf := .hdrTrunc, state := .idle }, rx := rest, lastRes := .malformed,
        resValid := true, trace := s.trace ++ [.rx b, .result .malformed] }) ∧
      (p ≠ 0#16 → exec .fLen1 s = .next { s with
        frm := { s.frm with pktNBytes := p, malf := if p.toNat < 4 then .hdrTrunc else s.frm.malf, idx := 0#16, state := .body },
        rx := rest, trace := s.trace ++ [.rx b] }))

/-- R94, R99, R100: the first three header bytes go to their register; where the body goes on the index advances, and where the
byte is the last one of a body flagged `P < 4` the read ends malformed. -/
def Obligations.FBodyCapturesTheHeader : Prop :=
  ∀ (s : State) (b : Byte) (rest : List (Option Byte)) (f : Framer), s.frm.state = .body → s.rx = some b :: rest →
    (s.frm.idx = 0#16 ∧ f = { s.frm with pktType := b ++ 0x00#8 } ∨
     s.frm.idx = 1#16 ∧ f = { s.frm with pktType := s.frm.pktType.extractLsb' 8 8 ++ b } ∨
     s.frm.idx = 2#16 ∧ f = { s.frm with bufNBytes := b ++ 0x00#8 }) →
    (s.frm.idx.toNat + 1 ≠ s.frm.pktNBytes.toNat → exec .fBody s = .next { s with
      frm := { f with idx := s.frm.idx + 1#16 }, rx := rest, trace := s.trace ++ [.rx b] }) ∧
    (s.frm.idx.toNat + 1 = s.frm.pktNBytes.toNat → s.frm.malf = .hdrTrunc → exec .fBody s = .next { s with
      frm := { f with state := .idle }, rx := rest, lastRes := .malformed, resValid := true,
      trace := s.trace ++ [.rx b, .result .malformed] })

/-- R95: validation, in the step of body index 3, on unbounded integers. Where the frame goes on the step only advances;
with `P = 4` it is the last byte and the read ends malformed. -/
def Obligations.FBodyValidatesTheHeader : Prop :=
  ∀ (s : State) (b : Byte) (rest : List (Option Byte)) (n : Half) (m : Malf), s.frm.state = .body → s.rx = some b :: rest →
    s.frm.idx = 3#16 → s.frm.malf = .none → 4 ≤ s.frm.pktNBytes.toNat →
    n = s.frm.bufNBytes.extractLsb' 8 8 ++ b →
    m = (if 50 < n.toNat then .capacity else if s.frm.pktNBytes.toNat < n.toNat + 5 then .overrun
         else if n.toNat + 5 < s.frm.pktNBytes.toNat then .slack else .none) →
    (s.frm.pktNBytes.toNat ≠ 4 → exec .fBody s = .next { s with
      frm := { s.frm with bufNBytes := n, malf := m, idx := 4#16 }, rx := rest, trace := s.trace ++ [.rx b] }) ∧
    (s.frm.pktNBytes.toNat = 4 → (m = .capacity ∨ m = .overrun) ∧ exec .fBody s = .next { s with
      frm := { s.frm with bufNBytes := n, malf := m, state := .idle }, rx := rest, lastRes := .malformed, resValid := true,
      trace := s.trace ++ [.rx b, .result .malformed] })

/-- R96: a payload byte of a well-formed frame goes to `PAY[i - 4]` and to the sum; it never completes the frame. -/
def Obligations.FBodyStoresAndSumsPayload : Prop :=
  ∀ (s : State) (b : Byte) (rest : List (Option Byte)), s.frm.state = .body → s.rx = some b :: rest →
    s.frm.malf = .none → s.frm.bufNBytes.toNat ≤ 50 → s.frm.pktNBytes.toNat = s.frm.bufNBytes.toNat + 5 →
    4 ≤ s.frm.idx.toNat → s.frm.idx.toNat < 4 + s.frm.bufNBytes.toNat → Memory.wf s.frm.pay = true →
    ∃ t, exec .fBody s = .next t ∧
      t = { s with
        frm := { s.frm with pay := t.frm.pay, payLen := BitVec.ofNat 6 (s.frm.idx.toNat - 3),
                            idx := BitVec.ofNat 16 (s.frm.idx.toNat + 1) },
        cse := { s.cse with acc := s.cse.acc + b }, rx := rest, trace := s.trace ++ [.rx b] } ∧
      Memory.read t.frm.pay (s.frm.idx.toNat - 4) = b ∧
      (∀ a, a ≠ s.frm.idx.toNat - 4 → Memory.read t.frm.pay a = Memory.read s.frm.pay a) ∧
      Memory.wf t.frm.pay = true

/-- R97, R100, R115: the checksum byte is stored, not summed, and ends the read: a mismatch counts and leaves the Sample,
a match runs the row of the packet type. -/
def Obligations.ChecksumByteDecidesTheFrame : Prop :=
  ∀ (s : State) (b : Byte) (rest : List (Option Byte)), s.frm.state = .body → s.rx = some b :: rest →
    s.frm.malf = .none → s.frm.pktNBytes.toNat = s.frm.bufNBytes.toNat + 5 →
    s.frm.idx.toNat = 4 + s.frm.bufNBytes.toNat →
    (s.cse.acc ≠ b → exec .fBody s = .next { s with
      frm := { s.frm with rxCsum := b, state := .idle },
      cse := { s.cse with cnt := if s.cse.cnt = 0xFFFF#16 then 0xFFFF#16 else s.cse.cnt + 1#16 }, rx := rest,
      lastRes := .csumMismatch, resValid := true, trace := s.trace ++ [.rx b, .result .csumMismatch] }) ∧
    (s.cse.acc = b → exec .fBody s = exec (decodePType s.frm.pktType) { s with
      frm := { s.frm with rxCsum := b }, rx := rest, trace := s.trace ++ [.rx b] })

/-- R98, R99, R100: a body byte of a malformed frame after the header is consumed and stored nowhere; the last one ends the
read with `RES_MALFORMED`. -/
def Obligations.FBodyDrainsMalformedFrames : Prop :=
  ∀ (s : State) (b : Byte) (rest : List (Option Byte)), s.frm.state = .body → s.rx = some b :: rest →
    s.frm.malf ≠ .none → 4 ≤ s.frm.idx.toNat →
    (s.frm.idx.toNat + 1 ≠ s.frm.pktNBytes.toNat → exec .fBody s = .next { s with
      frm := { s.frm with idx := s.frm.idx + 1#16 }, rx := rest, trace := s.trace ++ [.rx b] }) ∧
    (s.frm.idx.toNat + 1 = s.frm.pktNBytes.toNat → exec .fBody s = .next { s with
      frm := { s.frm with state := .idle }, rx := rest, lastRes := .malformed, resValid := true,
      trace := s.trace ++ [.rx b, .result .malformed] })

/-- R47, R193: a state whose operation is `ChRead` with no byte on the channel is stuck: its step changes no register and
adds no event, and `BUSY` stays 1 (that it is a stutter is the model's choice, log 7; the counter `reads` is the model's own,
log 4); and for as many attempts as the channel stays silent, without a reset, nothing ends the wait. -/
def Obligations.BlockingReadsWait : Prop :=
  (∀ s : State, s.stuck = true → s.rst.head? ≠ some true →
    (∃ t, step s = .next t ∧ t = { s with rx := s.rx.tail, reads := t.reads, rst := s.rst.tail, resValid := false }) ∧
    s.busy = true) ∧
  ∀ (n : Nat) (s : State), s.waitsRx = true → s.rst = [] → (∀ k < n, s.rxAnswer k = none) →
    ∃ t, Host.Core.run core n s = .next t ∧ s.sameRegs t = true ∧ t.trace = s.trace ∧ t.busy = true

/-! ### Whole frames -/

/-- R102, R105 (an inference the spec marks as its own): a well-formed frame read from its start: its fields are in the
Frame registers and its sum in `CS_ACC`; with a wrong checksum byte it is counted and the Sample stays, with the right one
its type's row runs. The form of the FRAME row, with the bytes its own operand and the channel's list `rx` left as it is, is the
model's choice (DESIGN CHOICE, log 26). -/
def Obligations.WellFormedFrameIsSplit : Prop :=
  ∀ (s : State) (t p : Half) (payload : List Byte) (c : Byte), s.readStarted → Memory.wf s.frm.pay = true →
    payload.length ≤ 50 → p = BitVec.ofNat 16 (payload.length + 5) →
    ∃ v : State,
      v.frm.pktNBytes = p ∧ v.frm.pktType = t ∧ v.frm.bufNBytes = BitVec.ofNat 16 payload.length ∧
      v.frm.payLen.toNat = payload.length ∧ v.payload = payload ∧ v.frm.rxCsum = c ∧ v.frm.malf = .none ∧
      v.cse = { s.cse with acc := checksum payload } ∧ v.smp = s.smp ∧ v.hsm = s.hsm ∧ v.lastRes = s.lastRes ∧
      v.rx = s.rx ∧
      v.trace = s.trace ++ ([hiByte p, loByte p, hiByte t, loByte t, 0x00#8, BitVec.ofNat 8 payload.length] ++ payload ++ [c]).map .rx ∧
      (checksum payload ≠ c →
        exec (.frame p ([hiByte t, loByte t, 0x00#8, BitVec.ofNat 8 payload.length] ++ payload ++ [c])) s =
          .next { v with
            frm := { v.frm with state := .idle },
            cse := { v.cse with cnt := if s.cse.cnt = 0xFFFF#16 then 0xFFFF#16 else s.cse.cnt + 1#16 },
            lastRes := .csumMismatch, resValid := true, trace := v.trace ++ [.result .csumMismatch] }) ∧
      (checksum payload = c →
        exec (.frame p ([hiByte t, loByte t, 0x00#8, BitVec.ofNat 8 payload.length] ++ payload ++ [c])) s =
          exec (decodePType t) v)

/-- R63, R70, R98, R163, and R105 (an inference the spec marks as its own):
a frame that is not well-formed is consumed to its end and reported `RES_MALFORMED` with its
cause; the header bytes that arrived are recorded, the rest reads zero, and nothing else of it is stored. That the FRAME row
takes the bytes from its own operand and leaves the channel's list `rx` as it is, is the model's choice (DESIGN CHOICE, log 26). -/
def Obligations.MalformedFrameStoresNothing : Prop :=
  ∀ (s : State) (p t b : Half) (body : List Byte), s.readStarted → body.length = p.toNat →
    t = body.getD 0 0x00#8 ++ body.getD 1 0x00#8 → b = body.getD 2 0x00#8 ++ body.getD 3 0x00#8 →
    ¬ (4 ≤ p.toNat ∧ b.toNat ≤ 50 ∧ p.toNat = b.toNat + 5) →
    ∃ u : State, exec (.frame p body) s = .next u ∧
      u.frm = { s.frm with
        pktNBytes := p, pktType := t, bufNBytes := b, state := .idle, idx := u.frm.idx,
        malf := if p.toNat < 4 then .hdrTrunc else if 50 < b.toNat then .capacity
                else if p.toNat < b.toNat + 5 then .overrun else .slack } ∧
      u.frm.payLen = 0#6 ∧ u.frm.rxCsum = 0x00#8 ∧ u.cse = s.cse ∧ u.smp = s.smp ∧ u.hsm = s.hsm ∧ u.rx = s.rx ∧
      u.lastRes = .malformed ∧ u.resValid = true ∧
      u.trace = s.trace ++ (hiByte p :: loByte p :: body).map .rx ++ [.result .malformed]

/-- R101, R103 (an inference the spec marks as its own): `2 + P` steps from `F_LEN0` consume exactly the frame's `2 + P`
bytes and end in the state the frame's own row gives, whatever the frame's content. The form of that FRAME row, which leaves `rx`
as it is, is the model's choice (DESIGN CHOICE, log 26): hence `rx` already past the frame on the right. -/
def Obligations.StepsConsumeExactlyTheFrame : Prop :=
  ∀ (s : State) (p : Half) (body : List Byte) (rest : List (Option Byte)), s.frm.state = .len0 → s.rst = [] →
    body.length = p.toNat → s.rx = (hiByte p :: loByte p :: body).map some ++ rest →
    Host.Core.run core (2 + p.toNat) s = exec (.frame p body) { s with rx := rest } ∧
    ∃ u : State, exec (.frame p body) { s with rx := rest } = .next u ∧ u.frm.state = .idle ∧ u.rx = rest ∧
      u.trace = s.trace ++ (hiByte p :: loByte p :: body).map .rx ++ [.result u.lastRes]

/-! ### The checksum engine -/

/-- R110: the checksum of a byte sequence is the sum of its bytes modulo 256, and 0 for the empty one. -/
def Obligations.ChecksumIsTheSumMod256 : Prop :=
  checksum [] = 0x00#8 ∧ ∀ p : List Byte, (checksum p).toNat = (p.map BitVec.toNat).sum % 256

/-- R116 (a) to (e) (an inference the spec marks as its own): concatenation, permutation, a changed byte is detected, two
changes that cancel are not, zeros, and the bound of the true sum. -/
def Obligations.ChecksumLaws : Prop :=
  (∀ p q : List Byte, checksum (p ++ q) = checksum p + checksum q) ∧
  (∀ p q : List Byte, p.Perm q → checksum p = checksum q) ∧
  (∀ (p q : List Byte) (a b : Byte), checksum (p ++ b :: q) = checksum (p ++ a :: q) + (b - a)) ∧
  (∀ (p q : List Byte) (a b : Byte), a ≠ b → checksum (p ++ a :: q) ≠ checksum (p ++ b :: q)) ∧
  (∀ (p q r : List Byte) (a b d : Byte), checksum (p ++ (a + d) :: q ++ (b - d) :: r) = checksum (p ++ a :: q ++ b :: r)) ∧
  (∀ (p : List Byte) (n : Nat), checksum (p ++ List.replicate n 0x00#8) = checksum p) ∧
  (∀ p : List Byte, p.length ≤ 50 → (p.map BitVec.toNat).sum ≤ 12750)

/-- R113 (an inference the spec marks as its own), R117: `CS_CLR` and then one `CS_ADD` per byte, in any order, leave the
checksum of the bytes in `CS_ACC`. -/
def Obligations.HostDrivenSumIsTheChecksum : Prop :=
  ∀ (s : State) (p q : List Byte) (d : Byte), s.busy = false → p.Perm q →
    ∃ t, execAll (.csClr d :: q.map .csAdd) s = .next t ∧
      t.cse = { s.cse with acc := checksum p } ∧ t.lastRes = .csDone ∧ t.frm = s.frm ∧ t.smp = s.smp ∧ t.hsm = s.hsm

/-! ### The payload decoder -/

/-- R121: type 1 with 6 payload bytes: of the Sample the three angles and nothing else. With them `LAST_RES`, the strobe and the
result event change, and `F_STATE <- F_IDLE`: that the row holds these (R100, R120), in any state, is the model's choice (DESIGN
CHOICE, log 22). -/
def Obligations.AttQ7WritesThreeAngles : Prop :=
  decodePType 0x0001#16 = .ptAttQ7 ∧ ∀ s : State, s.frm.payLen.toNat = 6 →
    exec .ptAttQ7 s = .next { s with
      frm := { s.frm with state := .idle },
      smp := { s.smp with
        roll := q7ToF32 (Memory.read s.frm.pay 0 ++ Memory.read s.frm.pay 1),
        pitch := q7ToF32 (Memory.read s.frm.pay 2 ++ Memory.read s.frm.pay 3),
        yaw := q7ToF32 (Memory.read s.frm.pay 4 ++ Memory.read s.frm.pay 5) },
      lastRes := .frameOk, resValid := true, trace := s.trace ++ [.result .frameOk] }

/-- R122: `Q7toF32` is exact: the pattern of `n / 128`, with +0.0 for 0, and never a NaN, an infinity, a subnormal or -0.0. -/
def Obligations.Q7ConversionIsExact : Prop :=
  ∀ v : Half, f32Value (q7ToF32 v) = (v.toInt : ℚ) / 128 ∧
    (v = 0#16 → q7ToF32 v = 0x00000000#32) ∧
    (v ≠ 0#16 → 120 ≤ ((q7ToF32 v).extractLsb' 23 8).toNat ∧ ((q7ToF32 v).extractLsb' 23 8).toNat ≤ 135)

/-- R123, R125, R126: types 2, 11 and 12 with 12, 2 and 4 payload bytes: of the Sample their own fields and nothing else. That the
row also holds `F_STATE <- F_IDLE` and the emission (R100, R120), in any state, is the model's choice (DESIGN CHOICE, log 22). -/
def Obligations.FloatAndIntegerTypesCopyTheField : Prop :=
  decodePType 0x0002#16 = .ptAttF32 ∧ decodePType 0x000B#16 = .ptDbgU16 ∧ decodePType 0x000C#16 = .ptDbgF32 ∧ ∀ s : State,
    (s.frm.payLen.toNat = 12 → exec .ptAttF32 s = .next { s with
      frm := { s.frm with state := .idle },
      smp := { s.smp with
        roll := f32FromWire (Memory.read s.frm.pay 0) (Memory.read s.frm.pay 1) (Memory.read s.frm.pay 2) (Memory.read s.frm.pay 3),
        pitch := f32FromWire (Memory.read s.frm.pay 4) (Memory.read s.frm.pay 5) (Memory.read s.frm.pay 6) (Memory.read s.frm.pay 7),
        yaw := f32FromWire (Memory.read s.frm.pay 8) (Memory.read s.frm.pay 9) (Memory.read s.frm.pay 10) (Memory.read s.frm.pay 11) },
      lastRes := .frameOk, resValid := true, trace := s.trace ++ [.result .frameOk] }) ∧
    (s.frm.payLen.toNat = 4 → exec .ptDbgF32 s = .next { s with
      frm := { s.frm with state := .idle },
      smp := { s.smp with
        dbgF32 := f32FromWire (Memory.read s.frm.pay 0) (Memory.read s.frm.pay 1) (Memory.read s.frm.pay 2) (Memory.read s.frm.pay 3) },
      lastRes := .frameOk, resValid := true, trace := s.trace ++ [.result .frameOk] }) ∧
    (s.frm.payLen.toNat = 2 → exec .ptDbgU16 s = .next { s with
      frm := { s.frm with state := .idle },
      smp := { s.smp with dbgU16 := Memory.read s.frm.pay 0 ++ Memory.read s.frm.pay 1 },
      lastRes := .frameOk, resValid := true, trace := s.trace ++ [.result .frameOk] })

/-- R124: `F32fromWire` puts the first payload byte in bits 31:24 and the last in bits 7:0, and the byte map is its own
inverse. -/
def Obligations.WordSwapIsBigEndianAndInvolutive : Prop :=
  ∀ a b c d : Byte,
    (f32FromWire a b c d).toNat = a.toNat * 2 ^ 24 + b.toNat * 2 ^ 16 + c.toNat * 2 ^ 8 + d.toNat ∧
    wordSwap a b c d = (d, c, b, a) ∧
    (let o := wordSwap a b c d; wordSwap o.1 o.2.1 o.2.2.1 o.2.2.2) = (a, b, c, d)

/-- R127, R164: every other type, with any payload, writes the sentinel. That the row also holds `F_STATE <- F_IDLE` and the
emission (R100, R120), in any state, is the model's choice (DESIGN CHOICE, log 22). -/
def Obligations.UnknownTypeWritesTheSentinel : Prop :=
  (∀ t : Half, t ≠ 1#16 → t ≠ 2#16 → t ≠ 11#16 → t ≠ 12#16 → decodePType t = .ptUnknown t) ∧
  ∀ (t : Half) (s : State), exec (.ptUnknown t) s = .next { s with
    frm := { s.frm with state := .idle }, smp := { s.smp with dbgU16 := 0x00AA#16 }, lastRes := .frameUnknown,
    resValid := true, trace := s.trace ++ [.result .frameUnknown] }

/-- R128, R165: a defined type with another payload length writes no Sample register. That the row also holds `F_STATE <- F_IDLE`
and the emission (R100, R120), in any state, is the model's choice (DESIGN CHOICE, log 22). -/
def Obligations.WrongPayloadLengthDecodesNothing : Prop :=
  ∀ s t : State,
    t = { s with frm := { s.frm with state := .idle }, lastRes := .decodeLen, resValid := true,
                 trace := s.trace ++ [.result .decodeLen] } →
    (s.frm.payLen.toNat ≠ 6 → exec .ptAttQ7 s = .next t) ∧
    (s.frm.payLen.toNat ≠ 12 → exec .ptAttF32 s = .next t) ∧
    (s.frm.payLen.toNat ≠ 2 → exec .ptDbgU16 s = .next t) ∧
    (s.frm.payLen.toNat ≠ 4 → exec .ptDbgF32 s = .next t)

/-- R129, R18, R115: in any step the Sample changes only where a frame completes with `RES_FRAME_OK` or `RES_FRAME_UNKNOWN`,
in the subset of its type; `DBG_INT` never changes but by reset. -/
def Obligations.SampleChangesOnlyWithAGoodFrame : Prop :=
  ∀ s t : State, step s = .next t → s.rst.head? ≠ some true →
    t.smp.dbgInt = s.smp.dbgInt ∧
    (t.smp ≠ s.smp → t.resValid = true ∧ (t.lastRes = .frameOk ∨ t.lastRes = .frameUnknown) ∧ s.frm.state = .body) ∧
    (¬ (t.frm.pktType = 1#16 ∨ t.frm.pktType = 2#16) →
      t.smp.roll = s.smp.roll ∧ t.smp.pitch = s.smp.pitch ∧ t.smp.yaw = s.smp.yaw) ∧
    (t.frm.pktType = 1#16 ∨ t.frm.pktType = 2#16 ∨ t.frm.pktType = 12#16 → t.smp.dbgU16 = s.smp.dbgU16) ∧
    (t.frm.pktType ≠ 12#16 → t.smp.dbgF32 = s.smp.dbgF32)

/-! ### The handshake -/

/-- R91, R103, R136, R150: `F_IDLE` takes an `RD_FRAME` at the port of an idle block, `H_IDLE` takes an `HS_START`, `H_LOCKED`
rejects it, and each rests when no command is at the port. -/
def Obligations.RestingStatesWaitForTheHost : Prop :=
  ∀ s : State, s.busy = false →
    ((∀ (d : Byte) (rest : List CmdWord), s.cmds = (0b10#2 ++ d) :: rest →
        exec .fIdle s = .next { s with
          frm := { pktNBytes := 0x0000#16, pktType := 0x0000#16, bufNBytes := 0x0000#16, pay := s.frm.pay, payLen := 0#6,
                   rxCsum := 0x00#8, malf := .none, state := .len0, idx := 0x0000#16 },
          cse := { s.cse with acc := 0x00#8 }, cmds := rest, trace := s.trace ++ [.rdFrame] }) ∧
      (s.cmds = [] → exec .fIdle s = .next s)) ∧
    (s.hsm.state = .idle →
      (∀ (d : Byte) (rest : List CmdWord), s.cmds = (0b11#2 ++ d) :: rest →
        exec .hIdle s = .next { s with hsm := { s.hsm with echo := 0x00#8, echoV := false, state := .initClr }, cmds := rest,
                                       trace := s.trace ++ [.hsStart] }) ∧
      (s.cmds = [] → exec .hIdle s = .next s)) ∧
    (s.hsm.state = .locked →
      (∀ (d : Byte) (rest : List CmdWord), s.cmds = (0b11#2 ++ d) :: rest →
        exec .hLocked s = .next { s with lastRes := .rejected, resValid := true, cmds := rest,
                                         trace := s.trace ++ [.hsStart, .result .rejected] }) ∧
      (s.cmds = [] → exec .hLocked s = .next s))

/-- R137, R138, R139, R141, R143, R144, R146: the seven steps that take no answer from the channel. -/
def Obligations.HandshakeStepsWithoutAnswer : Prop :=
  ∀ s : State,
    (s.hsm.state = .initClr → exec .hInitClr s = .next { s with
      hsm := { s.hsm with state := .initEn }, trace := s.trace ++ [.abdClr] }) ∧
    (s.hsm.state = .initEn → exec .hInitEn s = .next { s with
      hsm := { s.hsm with abdEn := true, state := .txInit }, trace := s.trace ++ [.abdEn] }) ∧
    (s.hsm.state = .txInit → exec .hTxInit s = .next { s with
      hsm := { s.hsm with state := .chkOvf }, trace := s.trace ++ [.tx s.ctl.init] }) ∧
    (s.hsm.state = .flush → exec .hFlush s = .next { s with
      hsm := { s.hsm with state := .txInit }, trace := s.trace ++ [.flush] }) ∧
    (s.hsm.state = .disAbd → exec .hDisAbd s = .next { s with
      hsm := { s.hsm with abdEn := false, state := .txConf }, trace := s.trace ++ [.abdDis] }) ∧
    (s.hsm.state = .txConf → exec .hTxConf s = .next { s with
      hsm := { s.hsm with state := .rxEcho }, trace := s.trace ++ [.tx s.ctl.confirm] }) ∧
    (s.hsm.state = .rtyTx → exec .hRtyTx s = .next { s with
      hsm := { s.hsm with state := .rtyRx }, trace := s.trace ++ [.tx s.ctl.confirm] })

/-- R140, R142: the two polls complete for every answer; the answer is the channel's next one where its list has one. -/
def Obligations.HandshakePollsFollowTheAnswer : Prop :=
  ∀ s : State,
    (s.hsm.state = .chkOvf → ∃ v, (∀ a rest, s.ovf = a :: rest → v = a) ∧ ∃ t, exec .hChkOvf s = .next t ∧
      t = { s with hsm := { s.hsm with state := if v then .flush else .chkAbd }, ovf := s.ovf.tail, polls := t.polls,
                   trace := s.trace ++ [.ovf v] }) ∧
    (s.hsm.state = .chkAbd → ∃ v, (∀ a rest, s.abd = a :: rest → v = a) ∧ ∃ t, exec .hChkAbd s = .next t ∧
      t = { s with hsm := { s.hsm with state := if v then .disAbd else .txInit }, abd := s.abd.tail, polls := t.polls,
                   trace := s.trace ++ [.abd v] })

/-- R145, R148, R149, R166: the first reply locks, enters the confirm retry, or restarts. -/
def Obligations.FirstReplyIsClassified : Prop :=
  ∀ (s : State) (r : Byte) (rest : List (Option Byte)), s.hsm.state = .rxEcho → s.rx = some r :: rest →
    (r = s.ctl.confirm → exec .hRxEcho s = .next { s with
      hsm := { s.hsm with locked := true, echo := 0x00#8, echoV := false, state := .locked }, rx := rest,
      lastRes := .hsLocked, resValid := true, trace := s.trace ++ [.rx r, .result .hsLocked] }) ∧
    (r ≠ s.ctl.confirm → (r = s.ctl.fail ∨ r = s.ctl.rawlock) → exec .hRxEcho s = .next { s with
      hsm := { s.hsm with echo := r, echoV := true, state := .rtyTx }, rx := rest, trace := s.trace ++ [.rx r] }) ∧
    (r ≠ s.ctl.confirm → r ≠ s.ctl.fail → r ≠ s.ctl.rawlock → exec .hRxEcho s = .next { s with
      hsm := { s.hsm with echo := r, echoV := true, state := .initClr }, rx := rest,
      trace := s.trace ++ [.rx r, .handshakeFailure] })

/-- R147, R149: in the confirm retry loop only the confirm byte ends it; any other byte leads to another resend. -/
def Obligations.RetryReplyLocksOrResends : Prop :=
  ∀ (s : State) (r : Byte) (rest : List (Option Byte)), s.hsm.state = .rtyRx → s.rx = some r :: rest →
    (r = s.ctl.confirm → exec .hRtyRx s = .next { s with
      hsm := { s.hsm with locked := true, echo := 0x00#8, echoV := false, state := .locked }, rx := rest,
      lastRes := .hsLocked, resValid := true, trace := s.trace ++ [.rx r, .result .hsLocked] }) ∧
    (r ≠ s.ctl.confirm → exec .hRtyRx s = .next { s with
      hsm := { s.hsm with echo := r, echoV := true, state := .rtyTx }, rx := rest, trace := s.trace ++ [.rx r] })

/-- R66, R70, R145, R147, R148: with pairwise different control bytes (R6), what each received control character does in the two
reading states; and the characters the block sends, in the states that send them (R139, R144, R146). -/
def Obligations.ControlCharactersSentAndReceived : Prop :=
  ∀ (s : State) (lock : State), s.ctl.distinct = true →
    lock = { s with hsm := { s.hsm with locked := true, echo := 0x00#8, echoV := false, state := .locked },
                    lastRes := .hsLocked, resValid := true, trace := s.trace ++ [.result .hsLocked] } →
    (s.hsm.state = .rxEcho →
      exec .ctlConfirm s = .next lock ∧
      exec .ctlFail s = .next { s with hsm := { s.hsm with echo := s.ctl.fail, echoV := true, state := .rtyTx } } ∧
      exec .ctlRawlock s = .next { s with hsm := { s.hsm with echo := s.ctl.rawlock, echoV := true, state := .rtyTx } } ∧
      exec .ctlInit s = .next { s with hsm := { s.hsm with echo := s.ctl.init, echoV := true, state := .initClr },
                                       trace := s.trace ++ [.handshakeFailure] } ∧
      ∀ v, s.ctl.named v = false → exec (.ctlOther v) s = .next { s with
        hsm := { s.hsm with echo := v, echoV := true, state := .initClr }, trace := s.trace ++ [.handshakeFailure] }) ∧
    (s.hsm.state = .rtyRx →
      exec .ctlConfirm s = .next lock ∧
      exec .ctlFail s = .next { s with hsm := { s.hsm with echo := s.ctl.fail, echoV := true, state := .rtyTx } } ∧
      exec .ctlRawlock s = .next { s with hsm := { s.hsm with echo := s.ctl.rawlock, echoV := true, state := .rtyTx } } ∧
      exec .ctlInit s = .next { s with hsm := { s.hsm with echo := s.ctl.init, echoV := true, state := .rtyTx } } ∧
      ∀ v, s.ctl.named v = false → exec (.ctlOther v) s = .next { s with
        hsm := { s.hsm with echo := v, echoV := true, state := .rtyTx } }) ∧
    (s.hsm.state = .txInit → exec .ctlInit s = .next { s with
      hsm := { s.hsm with state := .chkOvf }, trace := s.trace ++ [.tx s.ctl.init] }) ∧
    (s.hsm.state = .txConf → exec .ctlConfirm s = .next { s with
      hsm := { s.hsm with state := .rxEcho }, trace := s.trace ++ [.tx s.ctl.confirm] }) ∧
    (s.hsm.state = .rtyTx → exec .ctlConfirm s = .next { s with
      hsm := { s.hsm with state := .rtyRx }, trace := s.trace ++ [.tx s.ctl.confirm] })

/-- R151 (an inference the spec marks as its own): every change of `H_STATE` by a step without reset is a row of the
transition table. -/
def Obligations.HandshakeTransitionsAreTheTable : Prop :=
  ∀ s t : State, step s = .next t → s.rst.head? ≠ some true → t.hsm.state ≠ s.hsm.state →
    (s.hsm.state, t.hsm.state) ∈
      ([(.idle, .initClr), (.initClr, .initEn), (.initEn, .txInit), (.txInit, .chkOvf), (.chkOvf, .flush), (.chkOvf, .chkAbd),
        (.flush, .txInit), (.chkAbd, .disAbd), (.chkAbd, .txInit), (.disAbd, .txConf), (.txConf, .rxEcho),
        (.rxEcho, .locked), (.rxEcho, .rtyTx), (.rxEcho, .initClr), (.rtyTx, .rtyRx), (.rtyRx, .locked),
        (.rtyRx, .rtyTx)] : List (HState × HState))

/-- R150, R202: once locked, no step but reset changes the session. -/
def Obligations.LockedUntilReset : Prop :=
  ∀ s t : State, step s = .next t → s.rst.head? ≠ some true → s.hsm.state = .locked → t.hsm = s.hsm

/-- R154 (an inference the spec marks as its own): the shortest handshake takes eight steps after the start, one initiate
byte, one confirm byte and one read. -/
def Obligations.ShortestHandshakeTakesEightSteps : Prop :=
  ∀ (s : State) (o a : List Bool) (rest : List (Option Byte)), s.frm.state = .idle → s.hsm.state = .initClr → s.rst = [] →
    s.ovf = false :: o → s.abd = true :: a → s.rx = some s.ctl.confirm :: rest →
    Host.Core.run core 8 s = .next { s with
      hsm := { state := .locked, locked := true, echo := 0x00#8, echoV := false, abdEn := false },
      lastRes := .hsLocked, resValid := true, ovf := o, abd := a, rx := rest,
      trace := s.trace ++ [.abdClr, .abdEn, .tx s.ctl.init, .ovf false, .abd true, .abdDis, .tx s.ctl.confirm,
                           .rx s.ctl.confirm, .result .hsLocked] }

/-- R155 (an inference the spec marks as its own): from `H_TX_CONF`, if the first reply is a fail or raw baud-lock byte and
the confirm byte is the (n+1)-th byte read, the block locks having sent the confirm byte n + 1 times and nothing else. R152,
R194: the loop has no bound: for as many replies as are not the confirm byte, the answers of the channel past its list among
them, the block is still in it and has sent the confirm byte once per reply. -/
def Obligations.RetryLoopSendsOneConfirmPerReply : Prop :=
  (∀ (s : State) (r : Byte) (replies : List Byte) (rest : List (Option Byte)), s.frm.state = .idle → s.hsm.state = .txConf →
    s.rst = [] → r ≠ s.ctl.confirm → (r = s.ctl.fail ∨ r = s.ctl.rawlock) → (∀ x ∈ replies, x ≠ s.ctl.confirm) →
    s.rx = (r :: replies).map some ++ some s.ctl.confirm :: rest →
    ∃ t, Host.Core.run core (2 * (replies.length + 2)) s = .next t ∧ t.hsm.state = .locked ∧ t.hsm.locked = true ∧
      t.lastRes = .hsLocked ∧ t.rx = rest ∧
      sentBytes t.trace = sentBytes s.trace ++ List.replicate (replies.length + 2) s.ctl.confirm) ∧
  ∀ (s : State) (r : Byte) (n : Nat), s.frm.state = .idle → s.hsm.state = .txConf → s.rst = [] →
    s.rxAnswer 0 = some r → (r = s.ctl.fail ∨ r = s.ctl.rawlock) →
    (∀ k ≤ n, ∃ b, s.rxAnswer k = some b ∧ b ≠ s.ctl.confirm) →
    ∃ t, Host.Core.run core (2 * (n + 1)) s = .next t ∧ t.hsm.state = .rtyTx ∧ t.busy = true ∧ t.lastRes = s.lastRes ∧
      sentBytes t.trace = sentBytes s.trace ++ List.replicate (n + 1) s.ctl.confirm

/-! ### Results and causes -/

/-- R68, R85, R161 to R167: the emission of each result the block can emit, with the registers its error kind records. That a row
is a part of a step (DESIGN CHOICE, log 1), and that the framer's five hold `F_STATE <- F_IDLE` (R100) in any state (DESIGN CHOICE,
log 22), is the model's choice. -/
def Obligations.ResultRowsEmitTheirCode : Prop :=
  ∀ s : State,
    exec .resFrameOk s = .next { s with
      frm := { s.frm with state := .idle }, lastRes := .frameOk, resValid := true,
      trace := s.trace ++ [.result .frameOk] } ∧
    exec .resFrameUnknown s = .next { s with
      frm := { s.frm with state := .idle },
      smp := { s.smp with dbgU16 := 0x00AA#16 }, lastRes := .frameUnknown, resValid := true,
      trace := s.trace ++ [.result .frameUnknown] } ∧
    exec .resCsumMismatch s = .next { s with
      frm := { s.frm with state := .idle },
      cse := { s.cse with cnt := if s.cse.cnt = 0xFFFF#16 then 0xFFFF#16 else s.cse.cnt + 1#16 },
      lastRes := .csumMismatch, resValid := true, trace := s.trace ++ [.result .csumMismatch] } ∧
    exec .resMalformed s = .next { s with
      frm := { s.frm with state := .idle }, lastRes := .malformed, resValid := true,
      trace := s.trace ++ [.result .malformed] } ∧
    exec .resDecodeLen s = .next { s with
      frm := { s.frm with state := .idle }, lastRes := .decodeLen, resValid := true,
      trace := s.trace ++ [.result .decodeLen] } ∧
    exec .resHsLocked s = .next { s with
      hsm := { s.hsm with locked := true, echo := 0x00#8, echoV := false, state := .locked }, lastRes := .hsLocked,
      resValid := true, trace := s.trace ++ [.result .hsLocked] } ∧
    exec .resRejected s = .next { s with lastRes := .rejected, resValid := true, trace := s.trace ++ [.result .rejected] } ∧
    exec .resCsDone s = .next { s with lastRes := .csDone, resValid := true, trace := s.trace ++ [.result .csDone] }

/-- R68 (RES_NONE; the model's choice of log 15): the code reset leaves in `LAST_RES`, with no result event. -/
def Obligations.ResNoneEmitsNothing : Prop :=
  ∀ s : State, ∃ t, exec .resNone s = .next t ∧ t = { s with lastRes := .none } ∧ t.trace = s.trace ∧
    t.lastRes.code = 0x0#4

/-- R68, R168, R169: the two reserved results are never emitted: no step emits one of them, nor `RES_NONE`. That their rows stop,
refused by the name `neverEmitted`, is the model's inference (DEDUCED, log 15). -/
def Obligations.ReservedResultsAreNeverEmitted : Prop :=
  (∀ s : State, exec .resRsvdTimeout s = .refused (.neverEmitted "RES_RSVD_TIMEOUT") ∧
    exec .resRsvdBudget s = .refused (.neverEmitted "RES_RSVD_BUDGET")) ∧
  ∀ (s t : State) (c : ResCode), step s = .next t → Event.result c ∈ t.trace.drop s.trace.length →
    c ≠ .rsvdTimeout ∧ c ≠ .rsvdBudget ∧ c ≠ .none

/-- R69: the flagging of each cause writes `F_MALF` and nothing else. -/
def Obligations.CauseRowsFlagTheirCode : Prop :=
  ∀ s : State,
    (∃ t, exec .mfNone s = .next t ∧ t = { s with frm := { s.frm with malf := .none } } ∧ t.frm.malf.code = 0#3) ∧
    (∃ t, exec .mfHdrTrunc s = .next t ∧ t = { s with frm := { s.frm with malf := .hdrTrunc } } ∧ t.frm.malf.code = 1#3) ∧
    (∃ t, exec .mfCapacity s = .next t ∧ t = { s with frm := { s.frm with malf := .capacity } } ∧ t.frm.malf.code = 2#3) ∧
    (∃ t, exec .mfOverrun s = .next t ∧ t = { s with frm := { s.frm with malf := .overrun } } ∧ t.frm.malf.code = 3#3) ∧
    (∃ t, exec .mfSlack s = .next t ∧ t = { s with frm := { s.frm with malf := .slack } } ∧ t.frm.malf.code = 4#3)

/-- R25, R85: `LAST_RES` changes only when a command completes: the strobe is high after a step exactly when the step added a
result event, which is then its last event, its only result, and what `LAST_RES` holds. -/
def Obligations.LastResChangesOnlyOnCompletion : Prop :=
  ∀ s t : State, step s = .next t → s.rst.head? ≠ some true →
    (t.resValid = false → t.lastRes = s.lastRes) ∧
    (t.resValid = true → ∃ evs, t.trace = s.trace ++ evs ++ [.result t.lastRes] ∧ ∀ c, Event.result c ∉ evs) ∧
    (∀ c, Event.result c ∈ t.trace.drop s.trace.length → t.resValid = true ∧ t.lastRes = c)

/-- R26, R115: `CNT_CSUM` changes only with `RES_CSUM_MISMATCH`, by a saturating increment; only reset clears it. -/
def Obligations.MismatchCountSaturates : Prop :=
  ∀ s t : State, step s = .next t → s.rst.head? ≠ some true →
    (t.resValid = true ∧ t.lastRes = .csumMismatch → t.cse.cnt.toNat = min (s.cse.cnt.toNat + 1) 65535) ∧
    (¬ (t.resValid = true ∧ t.lastRes = .csumMismatch) → t.cse.cnt = s.cse.cnt)

/-- R24: in a legal state, a cause that is set stays until the next `RD_FRAME` is accepted or reset. -/
def Obligations.MalformedCauseIsSticky : Prop :=
  ∀ s t : State, Inv s → step s = .next t → s.rst.head? ≠ some true → s.frm.malf ≠ .none → Event.rdFrame ∉ t.trace.drop s.trace.length →
    t.frm.malf = s.frm.malf

/-! ### Whole-machine rules -/

/-- R8, R89: a step without reset runs the row that the sequencers and the command port select, in the state in which the
strobe has fallen and this step's level of `rst` is taken. -/
def Obligations.StepRunsTheSelectedRow : Prop :=
  ∀ s u : State, s.rst.head? ≠ some true → u = { s with rst := s.rst.tail, resValid := false } →
    (s.frm.state = .len0 → step s = exec .fLen0 u) ∧ (s.frm.state = .len1 → step s = exec .fLen1 u) ∧
    (s.frm.state = .body → step s = exec .fBody u) ∧
    (s.frm.state = .idle →
      (∀ i, decodeHStep s.hsm.state.code = some i → s.hsm.state ≠ .idle → s.hsm.state ≠ .locked → step s = exec i u) ∧
      (s.hsm.state = .idle ∨ s.hsm.state = .locked →
        (∀ w rest, s.cmds = w :: rest → step s = exec (decodeCmd w) { u with cmds := rest }) ∧
        (s.cmds = [] → step s = .next u)))

/-- R8, R43, R55: a step only adds to the trace, and adds at most one channel operation. -/
def Obligations.OneChannelOperationPerStep : Prop :=
  ∀ s t : State, step s = .next t →
    ∃ evs, t.trace = s.trace ++ evs ∧ (evs.filter Event.isChannelOp).length ≤ 1

/-- R46: only the three sending states of the handshake transmit: a step of the framer, of a command or of any other handshake
state sends no byte. -/
def Obligations.OnlyTheHandshakeTransmits : Prop :=
  ∀ s t : State, step s = .next t →
    s.frm.state ≠ .idle ∨ s.hsm.state ≠ .txInit ∧ s.hsm.state ≠ .txConf ∧ s.hsm.state ≠ .rtyTx →
    sentBytes t.trace = sentBytes s.trace

/-- R29, R83, R153: a frame read neither observes nor changes the handshake session: with any other session in its place the
step does the same. -/
def Obligations.FramerIgnoresTheSession : Prop :=
  ∀ (s t : State) (h : Handshake), s.frm.state ≠ .idle → s.rst.head? ≠ some true → step s = .next t →
    t.hsm = s.hsm ∧ step { s with hsm := h } = .next { t with hsm := h }

/-- R170, R195: outside `H_CHK_OVF` and `H_CHK_ABD` the block ignores the overflow and auto-baud signals. -/
def Obligations.PollsOnlyInTheirStates : Prop :=
  ∀ (s t : State) (o a : List Bool), step s = .next t →
    s.frm.state ≠ .idle ∨ s.hsm.state ≠ .chkOvf ∧ s.hsm.state ≠ .chkAbd →
    t.ovf = s.ovf ∧ t.abd = s.abd ∧ step { s with ovf := o, abd := a } = .next { t with ovf := o, abd := a }

/-- R57: no step changes the control bytes. -/
def Obligations.ControlBytesNeverChange : Prop :=
  ∀ s t : State, step s = .next t → t.ctl = s.ctl

/-- R40, R96: `PAY` changes only by the payload step of `F_BODY` (and by reset), in the one byte it stores: a step from any other
state, the header (R94), checksum (R97) and drain (R98) steps among them, and every row but `F_BODY` and `FRAME`, leaves every
byte of it. -/
def Obligations.OnlyPayloadBytesWritePay : Prop :=
  (∀ s t : State, step s = .next t → s.rst.head? ≠ some true →
    ∀ a, ¬ (s.frm.state = .body ∧ s.frm.malf = .none ∧ 4 ≤ s.frm.idx.toNat ∧
        s.frm.idx.toNat < 4 + s.frm.bufNBytes.toNat ∧ a = s.frm.idx.toNat - 4) →
      Memory.read t.frm.pay a = Memory.read s.frm.pay a) ∧
  (∀ (i : Instr) (s t : State), i ≠ .fBody → (∀ p body, i ≠ .frame p body) → exec i s = .next t → t.frm.pay = s.frm.pay)

/-- R45: the host's read port shows the list `PAY[0 .. PAYLEN)` and zero beyond it. -/
def Obligations.HostReadPortIsMasked : Prop :=
  ∀ (s : State) (addr : BitVec 6),
    s.payData addr = s.payload.getD addr.toNat 0x00#8 ∧ (s.frm.payLen.toNat ≤ addr.toNat → s.payData addr = 0x00#8) ∧
    (addr.toNat < s.frm.payLen.toNat → s.payData addr = Memory.read s.frm.pay addr.toNat)

/-- R86: every output the host can read is the register named for it, and reading changes nothing. -/
def Obligations.HostOutputsShowTheRegisters : Prop :=
  ∀ (addr : BitVec 6) (s : State) (o : HostOutputs), o = hostOutputs addr s →
    o.busy = s.busy ∧ o.locked = s.hsm.locked ∧ o.lastRes = s.lastRes.code ∧ o.frmNBytes = s.frm.pktNBytes ∧
    o.frmType = s.frm.pktType ∧ o.frmBLen = s.frm.bufNBytes ∧ o.frmPayLen = s.frm.payLen ∧ o.frmCsum = s.frm.rxCsum ∧
    o.frmMalf = s.frm.malf.code ∧ o.payData = (if addr.toNat < s.frm.payLen.toNat then Memory.read s.frm.pay addr.toNat else 0x00#8) ∧
    o.csSum = s.cse.acc ∧ o.cntCsum = s.cse.cnt ∧ o.roll = s.smp.roll ∧ o.pitch = s.smp.pitch ∧ o.yaw = s.smp.yaw ∧
    o.dbgU16 = s.smp.dbgU16 ∧ o.dbgInt = s.smp.dbgInt ∧ o.dbgF32 = s.smp.dbgF32

/-- R59, R80, R89, R200: in a cycle in which the state's operation cannot complete, or the block is idle and no command is
presented, no register changes; and while `BUSY = 1` the command port has no influence on the registers. -/
def Obligations.CyclesStutterUntilReady : Prop :=
  ∀ (inp : PortInputs) (s : State), inp.rst = false →
    (s.waitsRx = true ∧ inp.rxValid = false ∨ s.waitsTx = true ∧ inp.txReady = false ∨ s.busy = false ∧ inp.cmdValid = false →
      ∃ t, cycle inp s = .next t ∧ s.sameRegs t = true) ∧
    (s.busy = true → ∀ (v : Bool) (op : BitVec 2) (d : Byte) (t : State), cycle inp s = .next t →
      ∃ t', cycle { inp with cmdValid := v, cmdOp := op, cmdData := d } s = .next t' ∧ t.sameRegs t' = true)

/-! ### Invariants -/

/-- The invariant holds at reset. -/
def Obligations.ResetIsLegal : Prop := Inv State.reset

/-- R30 (an inference the spec marks as its own), with what its induction needs (R18, R23, R68, and the canonical form of
log 10): every step from a legal state gives a legal state. -/
def Obligations.StepKeepsTheInvariant : Prop :=
  ∀ s t : State, Inv s → step s = .next t → Inv t

/-- No legal state faults or is refused: the step always gives a next state. In a stuck state, where R47 says there is no enabled
step, that next state is the stutter of log 7 (DESIGN CHOICE). -/
def Obligations.LegalStatesNeverStop : Prop :=
  ∀ s : State, Inv s → ∃ t, step s = .next t

/-! ### Encodings -/

/-- Decoding the encoding of a well-formed instruction in its space gives it back, whatever follows. -/
def Obligations.DecodeOfEncode : Prop :=
  ∀ (c : CtrlBytes) (i : Instr) (rest : List Byte), i.wf c = true → decode c i.space (encode c i ++ rest) = .ok i rest

/-- Encoding what a decoder reads gives back the bytes read: no bit of an encoding is dropped. -/
def Obligations.EncodeOfDecode : Prop :=
  ∀ (c : CtrlBytes) (sp : Space) (bytes rest : List Byte) (i : Instr), c.distinct = true →
    decode c sp bytes = .ok i rest → i.space = sp ∧ i.wf c = true ∧ encode c i ++ rest = bytes

/-- Words written out from the tables of 30_encoding.md and 10_state.md decode to their rows. -/
def Obligations.WrittenOutWordsDecode : Prop :=
  decodeCmd 0b0111111111#10 = .csAdd 0xFF#8 ∧ decodeCmd 0b1000000000#10 = .rdFrame 0x00#8 ∧
  decodePType 0b0000000000001011#16 = .ptDbgU16 ∧ decodePType 0b0000000100000001#16 = .ptUnknown 0x0101#16 ∧
  decodeHStep 0b1011#4 = some .hRtyRx ∧ decodeFStep 0b11#2 = .fBody ∧ decodeRes 0b0101#4 = some .resDecodeLen ∧
  decodeMf 0b100#3 = some .mfSlack ∧
  decodeFrame [0x00#8, 0x05#8, 0x00#8, 0x63#8, 0x00#8, 0x00#8, 0x00#8, 0x7F#8] =
    .ok (.frame 0x0005#16 [0x00#8, 0x63#8, 0x00#8, 0x00#8, 0x00#8]) [0x7F#8] ∧
  decodeCtrl { init := 0x10#8, confirm := 0x20#8, fail := 0x30#8, rawlock := 0x40#8 } 0x43#8 = .ctlOther 0x43#8
end

