-- ==== Sys2Proof/Laws/Memory.lean ====
section
/-! SUPPORT. The payload buffer: a read after a write, and that a write keeps the canonical form. -/

namespace Sys2Proof.Machine

theorem Memory.read_of_lt : ∀ (m : Memory) (lo a : Nat), Memory.wfFrom lo m = true → a < lo →
    Memory.read m a = payUnlisted
  | [], _, _, _, _ => rfl
  | (k, w) :: m, lo, a, h, hlt => by
    simp only [Memory.wfFrom, Bool.and_eq_true, decide_eq_true_eq] at h
    have hk : k ≠ a := by omega
    simp only [Memory.read, hk, if_false]
    exact Memory.read_of_lt m (k + 1) a h.2 (by omega)

theorem Memory.wfFrom_mono : ∀ (m : Memory) (lo lo' : Nat), lo' ≤ lo → Memory.wfFrom lo m = true →
    Memory.wfFrom lo' m = true
  | [], _, _, _, _ => rfl
  | (k, w) :: m, lo, lo', hle, h => by
    simp only [Memory.wfFrom, Bool.and_eq_true, decide_eq_true_eq] at h ⊢
    exact ⟨⟨⟨by omega, h.1.1.2⟩, h.1.2⟩, h.2⟩

/-- The cell written reads as the byte written. -/
theorem Memory.read_write_same : ∀ (m : Memory) (lo a : Nat) (v : Byte), Memory.wfFrom lo m = true →
    Memory.read (Memory.write m a v) a = v
  | [], _, a, v, _ => by
    by_cases hv : v = payUnlisted <;> simp [Memory.write, Memory.read, hv]
  | (k, w) :: m, lo, a, v, h => by
    have hm := h
    simp only [Memory.wfFrom, Bool.and_eq_true, decide_eq_true_eq] at h
    by_cases h1 : a < k
    · by_cases hv : v = payUnlisted
      · simp only [Memory.write, h1, if_true, hv]
        exact Memory.read_of_lt ((k, w) :: m) k a
          (by simp only [Memory.wfFrom, Bool.and_eq_true, decide_eq_true_eq]; exact ⟨⟨⟨le_refl k, h.1.1.2⟩, h.1.2⟩, h.2⟩) h1
      · simp [Memory.write, h1, hv, Memory.read]
    · by_cases h2 : a = k
      · subst h2
        by_cases hv : v = payUnlisted
        · simp only [Memory.write, lt_irrefl, if_false, if_true, hv]
          exact Memory.read_of_lt m (a + 1) a h.2 (by omega)
        · simp [Memory.write, hv, Memory.read]
      · have h3 : k ≠ a := fun e => h2 e.symm
        simp only [Memory.write, h1, h2, if_false, Memory.read, h3]
        exact Memory.read_write_same m (k + 1) a v h.2

/-- Every other cell reads as before. -/
theorem Memory.read_write_other : ∀ (m : Memory) (a a' : Nat) (v : Byte), a' ≠ a →
    Memory.read (Memory.write m a v) a' = Memory.read m a'
  | [], a, a', v, hne => by
    by_cases hv : v = payUnlisted
    · simp [Memory.write, hv]
    · simp [Memory.write, hv, Memory.read, hne.symm]
  | (k, w) :: m, a, a', v, hne => by
    have hne' : a ≠ a' := hne.symm
    by_cases h1 : a < k
    · by_cases hv : v = payUnlisted <;> simp [Memory.write, h1, hv, Memory.read, hne']
    · by_cases h2 : a = k
      · subst h2
        by_cases hv : v = payUnlisted <;> simp [Memory.write, hv, Memory.read, hne']
      · simp only [Memory.write, h1, h2, if_false, Memory.read]
        rw [Memory.read_write_other m a a' v hne]

theorem Memory.wfFrom_write : ∀ (m : Memory) (lo a : Nat) (v : Byte), Memory.wfFrom lo m = true → lo ≤ a → a < payCap →
    Memory.wfFrom lo (Memory.write m a v) = true
  | [], lo, a, v, _, hlo, hcap => by
    by_cases hv : v = payUnlisted
    · simp [Memory.write, hv, Memory.wfFrom]
    · simp [Memory.write, hv, Memory.wfFrom, hlo, hcap]
  | (k, w) :: m, lo, a, v, h, hlo, hcap => by
    have hall := h
    simp only [Memory.wfFrom, Bool.and_eq_true, decide_eq_true_eq, bne_iff_ne] at h
    obtain ⟨⟨⟨hk, hkc⟩, hw⟩, hm⟩ := h
    by_cases h1 : a < k
    · by_cases hv : v = payUnlisted
      · simpa [Memory.write, h1, hv] using hall
      · simp only [Memory.write, h1, if_true, hv, if_false, Memory.wfFrom, Bool.and_eq_true, decide_eq_true_eq, bne_iff_ne]
        exact ⟨⟨⟨hlo, hcap⟩, hv⟩, ⟨⟨by omega, hkc⟩, hw⟩, hm⟩
    · by_cases h2 : a = k
      · subst h2
        by_cases hv : v = payUnlisted
        · simpa [Memory.write, hv] using Memory.wfFrom_mono m (a + 1) lo (by omega) hm
        · simp only [Memory.write, lt_irrefl, if_false, if_true, hv, Memory.wfFrom, Bool.and_eq_true, decide_eq_true_eq,
            bne_iff_ne]
          exact ⟨⟨⟨hlo, hcap⟩, hv⟩, hm⟩
      · simp only [Memory.write, h1, h2, if_false, Memory.wfFrom, Bool.and_eq_true, decide_eq_true_eq, bne_iff_ne]
        exact ⟨⟨⟨hk, hkc⟩, hw⟩, Memory.wfFrom_write m (k + 1) a v hm (by omega) hcap⟩

/-- A write to an index of `PAY` keeps the canonical form. -/
theorem Memory.wf_write (m : Memory) (a : Nat) (v : Byte) (h : Memory.wf m = true) (ha : a < payCap) :
    Memory.wf (Memory.write m a v) = true :=
  Memory.wfFrom_write m 0 a v h (Nat.zero_le a) ha

/-- The payload buffer at reset has the canonical form. -/
theorem State.reset_pay_wf : Memory.wf State.reset.frm.pay = true := rfl

/-- The bytes below a written index are as before. -/
theorem Memory.bytes_write (m : Memory) (n a : Nat) (v : Byte) (h : n ≤ a) :
    Memory.bytes (Memory.write m a v) n = Memory.bytes m n := by
  refine List.map_congr_left fun k hk => ?_
  exact Memory.read_write_other m a k v (by have := List.mem_range.mp hk; omega)

/-- One more byte. -/
theorem Memory.bytes_succ (m : Memory) (n : Nat) :
    Memory.bytes m (n + 1) = Memory.bytes m n ++ [Memory.read m n] := by
  simp [Memory.bytes, List.range_succ]

end Sys2Proof.Machine
end

