-- ==== Sys2Proof/Laws/State.lean ====
section
/-! SUPPORT. What each update of the state leaves in each field: one lemma per field per update, true by unfolding, so that no
later proof unfolds a record update. -/

namespace Sys2Proof.Machine

section
variable (s : State) (e : Event)
@[simp] theorem State.log_frm : (s.log e).frm = s.frm := rfl
@[simp] theorem State.log_cse : (s.log e).cse = s.cse := rfl
@[simp] theorem State.log_smp : (s.log e).smp = s.smp := rfl
@[simp] theorem State.log_hsm : (s.log e).hsm = s.hsm := rfl
@[simp] theorem State.log_lastRes : (s.log e).lastRes = s.lastRes := rfl
@[simp] theorem State.log_resValid : (s.log e).resValid = s.resValid := rfl
@[simp] theorem State.log_ctl : (s.log e).ctl = s.ctl := rfl
@[simp] theorem State.log_cmds : (s.log e).cmds = s.cmds := rfl
@[simp] theorem State.log_rx : (s.log e).rx = s.rx := rfl
@[simp] theorem State.log_ovf : (s.log e).ovf = s.ovf := rfl
@[simp] theorem State.log_abd : (s.log e).abd = s.abd := rfl
@[simp] theorem State.log_rst : (s.log e).rst = s.rst := rfl
@[simp] theorem State.log_polls : (s.log e).polls = s.polls := rfl
@[simp] theorem State.log_reads : (s.log e).reads = s.reads := rfl
@[simp] theorem State.log_trace : (s.log e).trace = s.trace ++ [e] := rfl
end

section
variable (s : State)
@[simp] theorem State.strobeLow_frm : s.strobeLow.frm = s.frm := rfl
@[simp] theorem State.strobeLow_cse : s.strobeLow.cse = s.cse := rfl
@[simp] theorem State.strobeLow_smp : s.strobeLow.smp = s.smp := rfl
@[simp] theorem State.strobeLow_hsm : s.strobeLow.hsm = s.hsm := rfl
@[simp] theorem State.strobeLow_lastRes : s.strobeLow.lastRes = s.lastRes := rfl
@[simp] theorem State.strobeLow_resValid : s.strobeLow.resValid = false := rfl
@[simp] theorem State.strobeLow_ctl : s.strobeLow.ctl = s.ctl := rfl
@[simp] theorem State.strobeLow_cmds : s.strobeLow.cmds = s.cmds := rfl
@[simp] theorem State.strobeLow_rx : s.strobeLow.rx = s.rx := rfl
@[simp] theorem State.strobeLow_ovf : s.strobeLow.ovf = s.ovf := rfl
@[simp] theorem State.strobeLow_abd : s.strobeLow.abd = s.abd := rfl
@[simp] theorem State.strobeLow_rst : s.strobeLow.rst = s.rst := rfl
@[simp] theorem State.strobeLow_polls : s.strobeLow.polls = s.polls := rfl
@[simp] theorem State.strobeLow_reads : s.strobeLow.reads = s.reads := rfl
@[simp] theorem State.strobeLow_trace : s.strobeLow.trace = s.trace := rfl
end

section
variable (s : State)
@[simp] theorem State.rxTake_frm : s.rxTake.frm = s.frm := rfl
@[simp] theorem State.rxTake_cse : s.rxTake.cse = s.cse := rfl
@[simp] theorem State.rxTake_smp : s.rxTake.smp = s.smp := rfl
@[simp] theorem State.rxTake_hsm : s.rxTake.hsm = s.hsm := rfl
@[simp] theorem State.rxTake_lastRes : s.rxTake.lastRes = s.lastRes := rfl
@[simp] theorem State.rxTake_resValid : s.rxTake.resValid = s.resValid := rfl
@[simp] theorem State.rxTake_ctl : s.rxTake.ctl = s.ctl := rfl
@[simp] theorem State.rxTake_cmds : s.rxTake.cmds = s.cmds := rfl
@[simp] theorem State.rxTake_rx : s.rxTake.rx = s.rx.tail := rfl
@[simp] theorem State.rxTake_ovf : s.rxTake.ovf = s.ovf := rfl
@[simp] theorem State.rxTake_abd : s.rxTake.abd = s.abd := rfl
@[simp] theorem State.rxTake_rst : s.rxTake.rst = s.rst := rfl
@[simp] theorem State.rxTake_polls : s.rxTake.polls = s.polls := rfl
@[simp] theorem State.rxTake_reads : s.rxTake.reads = if s.rx.isEmpty then s.reads + 1 else s.reads := rfl
@[simp] theorem State.rxTake_trace : s.rxTake.trace = s.trace := rfl
end

section
variable (s : State)
@[simp] theorem State.noByte_frm : s.noByte.frm = s.frm := rfl
@[simp] theorem State.noByte_cse : s.noByte.cse = s.cse := rfl
@[simp] theorem State.noByte_smp : s.noByte.smp = s.smp := rfl
@[simp] theorem State.noByte_hsm : s.noByte.hsm = s.hsm := rfl
@[simp] theorem State.noByte_lastRes : s.noByte.lastRes = s.lastRes := rfl
@[simp] theorem State.noByte_resValid : s.noByte.resValid = s.resValid := rfl
@[simp] theorem State.noByte_ctl : s.noByte.ctl = s.ctl := rfl
@[simp] theorem State.noByte_cmds : s.noByte.cmds = s.cmds := rfl
@[simp] theorem State.noByte_rx : s.noByte.rx = s.rx.tail := rfl
@[simp] theorem State.noByte_ovf : s.noByte.ovf = s.ovf := rfl
@[simp] theorem State.noByte_abd : s.noByte.abd = s.abd := rfl
@[simp] theorem State.noByte_rst : s.noByte.rst = s.rst := rfl
@[simp] theorem State.noByte_polls : s.noByte.polls = s.polls := rfl
@[simp] theorem State.noByte_reads : s.noByte.reads = if s.rx.isEmpty then s.reads + 1 else s.reads := rfl
@[simp] theorem State.noByte_trace : s.noByte.trace = s.trace := rfl
end

section
variable (s : State) (b : Byte)
@[simp] theorem State.chWrite_frm : (s.chWrite b).frm = s.frm := rfl
@[simp] theorem State.chWrite_cse : (s.chWrite b).cse = s.cse := rfl
@[simp] theorem State.chWrite_smp : (s.chWrite b).smp = s.smp := rfl
@[simp] theorem State.chWrite_hsm : (s.chWrite b).hsm = s.hsm := rfl
@[simp] theorem State.chWrite_lastRes : (s.chWrite b).lastRes = s.lastRes := rfl
@[simp] theorem State.chWrite_resValid : (s.chWrite b).resValid = s.resValid := rfl
@[simp] theorem State.chWrite_ctl : (s.chWrite b).ctl = s.ctl := rfl
@[simp] theorem State.chWrite_cmds : (s.chWrite b).cmds = s.cmds := rfl
@[simp] theorem State.chWrite_rx : (s.chWrite b).rx = s.rx := rfl
@[simp] theorem State.chWrite_ovf : (s.chWrite b).ovf = s.ovf := rfl
@[simp] theorem State.chWrite_abd : (s.chWrite b).abd = s.abd := rfl
@[simp] theorem State.chWrite_rst : (s.chWrite b).rst = s.rst := rfl
@[simp] theorem State.chWrite_polls : (s.chWrite b).polls = s.polls := rfl
@[simp] theorem State.chWrite_reads : (s.chWrite b).reads = s.reads := rfl
@[simp] theorem State.chWrite_trace : (s.chWrite b).trace = s.trace ++ [.tx b] := rfl
end

section
variable (s : State)
@[simp] theorem State.chFlush_frm : s.chFlush.frm = s.frm := rfl
@[simp] theorem State.chFlush_cse : s.chFlush.cse = s.cse := rfl
@[simp] theorem State.chFlush_smp : s.chFlush.smp = s.smp := rfl
@[simp] theorem State.chFlush_hsm : s.chFlush.hsm = s.hsm := rfl
@[simp] theorem State.chFlush_lastRes : s.chFlush.lastRes = s.lastRes := rfl
@[simp] theorem State.chFlush_resValid : s.chFlush.resValid = s.resValid := rfl
@[simp] theorem State.chFlush_ctl : s.chFlush.ctl = s.ctl := rfl
@[simp] theorem State.chFlush_cmds : s.chFlush.cmds = s.cmds := rfl
@[simp] theorem State.chFlush_rx : s.chFlush.rx = s.rx := rfl
@[simp] theorem State.chFlush_ovf : s.chFlush.ovf = s.ovf := rfl
@[simp] theorem State.chFlush_abd : s.chFlush.abd = s.abd := rfl
@[simp] theorem State.chFlush_rst : s.chFlush.rst = s.rst := rfl
@[simp] theorem State.chFlush_polls : s.chFlush.polls = s.polls := rfl
@[simp] theorem State.chFlush_reads : s.chFlush.reads = s.reads := rfl
@[simp] theorem State.chFlush_trace : s.chFlush.trace = s.trace ++ [.flush] := rfl
end

section
variable (s : State)
@[simp] theorem State.chAbdEnable_frm : s.chAbdEnable.frm = s.frm := rfl
@[simp] theorem State.chAbdEnable_cse : s.chAbdEnable.cse = s.cse := rfl
@[simp] theorem State.chAbdEnable_smp : s.chAbdEnable.smp = s.smp := rfl
@[simp] theorem State.chAbdEnable_hsm : s.chAbdEnable.hsm = { s.hsm with abdEn := true } := rfl
@[simp] theorem State.chAbdEnable_lastRes : s.chAbdEnable.lastRes = s.lastRes := rfl
@[simp] theorem State.chAbdEnable_resValid : s.chAbdEnable.resValid = s.resValid := rfl
@[simp] theorem State.chAbdEnable_ctl : s.chAbdEnable.ctl = s.ctl := rfl
@[simp] theorem State.chAbdEnable_cmds : s.chAbdEnable.cmds = s.cmds := rfl
@[simp] theorem State.chAbdEnable_rx : s.chAbdEnable.rx = s.rx := rfl
@[simp] theorem State.chAbdEnable_ovf : s.chAbdEnable.ovf = s.ovf := rfl
@[simp] theorem State.chAbdEnable_abd : s.chAbdEnable.abd = s.abd := rfl
@[simp] theorem State.chAbdEnable_rst : s.chAbdEnable.rst = s.rst := rfl
@[simp] theorem State.chAbdEnable_polls : s.chAbdEnable.polls = s.polls := rfl
@[simp] theorem State.chAbdEnable_reads : s.chAbdEnable.reads = s.reads := rfl
@[simp] theorem State.chAbdEnable_trace : s.chAbdEnable.trace = s.trace ++ [.abdEn] := rfl
end

section
variable (s : State)
@[simp] theorem State.chAbdDisable_frm : s.chAbdDisable.frm = s.frm := rfl
@[simp] theorem State.chAbdDisable_cse : s.chAbdDisable.cse = s.cse := rfl
@[simp] theorem State.chAbdDisable_smp : s.chAbdDisable.smp = s.smp := rfl
@[simp] theorem State.chAbdDisable_hsm : s.chAbdDisable.hsm = { s.hsm with abdEn := false } := rfl
@[simp] theorem State.chAbdDisable_lastRes : s.chAbdDisable.lastRes = s.lastRes := rfl
@[simp] theorem State.chAbdDisable_resValid : s.chAbdDisable.resValid = s.resValid := rfl
@[simp] theorem State.chAbdDisable_ctl : s.chAbdDisable.ctl = s.ctl := rfl
@[simp] theorem State.chAbdDisable_cmds : s.chAbdDisable.cmds = s.cmds := rfl
@[simp] theorem State.chAbdDisable_rx : s.chAbdDisable.rx = s.rx := rfl
@[simp] theorem State.chAbdDisable_ovf : s.chAbdDisable.ovf = s.ovf := rfl
@[simp] theorem State.chAbdDisable_abd : s.chAbdDisable.abd = s.abd := rfl
@[simp] theorem State.chAbdDisable_rst : s.chAbdDisable.rst = s.rst := rfl
@[simp] theorem State.chAbdDisable_polls : s.chAbdDisable.polls = s.polls := rfl
@[simp] theorem State.chAbdDisable_reads : s.chAbdDisable.reads = s.reads := rfl
@[simp] theorem State.chAbdDisable_trace : s.chAbdDisable.trace = s.trace ++ [.abdDis] := rfl
end

section
variable (s : State)
@[simp] theorem State.chAbdClear_frm : s.chAbdClear.frm = s.frm := rfl
@[simp] theorem State.chAbdClear_cse : s.chAbdClear.cse = s.cse := rfl
@[simp] theorem State.chAbdClear_smp : s.chAbdClear.smp = s.smp := rfl
@[simp] theorem State.chAbdClear_hsm : s.chAbdClear.hsm = s.hsm := rfl
@[simp] theorem State.chAbdClear_lastRes : s.chAbdClear.lastRes = s.lastRes := rfl
@[simp] theorem State.chAbdClear_resValid : s.chAbdClear.resValid = s.resValid := rfl
@[simp] theorem State.chAbdClear_ctl : s.chAbdClear.ctl = s.ctl := rfl
@[simp] theorem State.chAbdClear_cmds : s.chAbdClear.cmds = s.cmds := rfl
@[simp] theorem State.chAbdClear_rx : s.chAbdClear.rx = s.rx := rfl
@[simp] theorem State.chAbdClear_ovf : s.chAbdClear.ovf = s.ovf := rfl
@[simp] theorem State.chAbdClear_abd : s.chAbdClear.abd = s.abd := rfl
@[simp] theorem State.chAbdClear_rst : s.chAbdClear.rst = s.rst := rfl
@[simp] theorem State.chAbdClear_polls : s.chAbdClear.polls = s.polls := rfl
@[simp] theorem State.chAbdClear_reads : s.chAbdClear.reads = s.reads := rfl
@[simp] theorem State.chAbdClear_trace : s.chAbdClear.trace = s.trace ++ [.abdClr] := rfl
end

section
variable (s : State) (c : ResCode)
@[simp] theorem State.emit_frm : (s.emit c).frm = s.frm := rfl
@[simp] theorem State.emit_cse : (s.emit c).cse = s.cse := rfl
@[simp] theorem State.emit_smp : (s.emit c).smp = s.smp := rfl
@[simp] theorem State.emit_hsm : (s.emit c).hsm = s.hsm := rfl
@[simp] theorem State.emit_lastRes : (s.emit c).lastRes = c := rfl
@[simp] theorem State.emit_resValid : (s.emit c).resValid = true := rfl
@[simp] theorem State.emit_ctl : (s.emit c).ctl = s.ctl := rfl
@[simp] theorem State.emit_cmds : (s.emit c).cmds = s.cmds := rfl
@[simp] theorem State.emit_rx : (s.emit c).rx = s.rx := rfl
@[simp] theorem State.emit_ovf : (s.emit c).ovf = s.ovf := rfl
@[simp] theorem State.emit_abd : (s.emit c).abd = s.abd := rfl
@[simp] theorem State.emit_rst : (s.emit c).rst = s.rst := rfl
@[simp] theorem State.emit_polls : (s.emit c).polls = s.polls := rfl
@[simp] theorem State.emit_reads : (s.emit c).reads = s.reads := rfl
@[simp] theorem State.emit_trace : (s.emit c).trace = s.trace ++ [.result c] := rfl
end

section
variable (s : State) (c : ResCode)
@[simp] theorem State.finishFrame_frm : (s.finishFrame c).frm = { s.frm with state := .idle } := rfl
@[simp] theorem State.finishFrame_cse : (s.finishFrame c).cse = s.cse := rfl
@[simp] theorem State.finishFrame_smp : (s.finishFrame c).smp = s.smp := rfl
@[simp] theorem State.finishFrame_hsm : (s.finishFrame c).hsm = s.hsm := rfl
@[simp] theorem State.finishFrame_lastRes : (s.finishFrame c).lastRes = c := rfl
@[simp] theorem State.finishFrame_resValid : (s.finishFrame c).resValid = true := rfl
@[simp] theorem State.finishFrame_ctl : (s.finishFrame c).ctl = s.ctl := rfl
@[simp] theorem State.finishFrame_cmds : (s.finishFrame c).cmds = s.cmds := rfl
@[simp] theorem State.finishFrame_rx : (s.finishFrame c).rx = s.rx := rfl
@[simp] theorem State.finishFrame_ovf : (s.finishFrame c).ovf = s.ovf := rfl
@[simp] theorem State.finishFrame_abd : (s.finishFrame c).abd = s.abd := rfl
@[simp] theorem State.finishFrame_rst : (s.finishFrame c).rst = s.rst := rfl
@[simp] theorem State.finishFrame_polls : (s.finishFrame c).polls = s.polls := rfl
@[simp] theorem State.finishFrame_reads : (s.finishFrame c).reads = s.reads := rfl
@[simp] theorem State.finishFrame_trace : (s.finishFrame c).trace = s.trace ++ [.result c] := rfl
end

section
variable (s : State)
@[simp] theorem State.raiseMalformed_frm : s.raiseMalformed.frm = { s.frm with state := .idle } := rfl
@[simp] theorem State.raiseMalformed_cse : s.raiseMalformed.cse = s.cse := rfl
@[simp] theorem State.raiseMalformed_smp : s.raiseMalformed.smp = s.smp := rfl
@[simp] theorem State.raiseMalformed_hsm : s.raiseMalformed.hsm = s.hsm := rfl
@[simp] theorem State.raiseMalformed_lastRes : s.raiseMalformed.lastRes = .malformed := rfl
@[simp] theorem State.raiseMalformed_resValid : s.raiseMalformed.resValid = true := rfl
@[simp] theorem State.raiseMalformed_ctl : s.raiseMalformed.ctl = s.ctl := rfl
@[simp] theorem State.raiseMalformed_cmds : s.raiseMalformed.cmds = s.cmds := rfl
@[simp] theorem State.raiseMalformed_rx : s.raiseMalformed.rx = s.rx := rfl
@[simp] theorem State.raiseMalformed_ovf : s.raiseMalformed.ovf = s.ovf := rfl
@[simp] theorem State.raiseMalformed_abd : s.raiseMalformed.abd = s.abd := rfl
@[simp] theorem State.raiseMalformed_rst : s.raiseMalformed.rst = s.rst := rfl
@[simp] theorem State.raiseMalformed_polls : s.raiseMalformed.polls = s.polls := rfl
@[simp] theorem State.raiseMalformed_reads : s.raiseMalformed.reads = s.reads := rfl
@[simp] theorem State.raiseMalformed_trace : s.raiseMalformed.trace = s.trace ++ [.result .malformed] := rfl
end

section
variable (s : State)
@[simp] theorem State.raiseCsumMismatch_frm : s.raiseCsumMismatch.frm = { s.frm with state := .idle } := rfl
@[simp] theorem State.raiseCsumMismatch_cse : s.raiseCsumMismatch.cse = { s.cse with cnt := sat16Inc s.cse.cnt } := rfl
@[simp] theorem State.raiseCsumMismatch_smp : s.raiseCsumMismatch.smp = s.smp := rfl
@[simp] theorem State.raiseCsumMismatch_hsm : s.raiseCsumMismatch.hsm = s.hsm := rfl
@[simp] theorem State.raiseCsumMismatch_lastRes : s.raiseCsumMismatch.lastRes = .csumMismatch := rfl
@[simp] theorem State.raiseCsumMismatch_resValid : s.raiseCsumMismatch.resValid = true := rfl
@[simp] theorem State.raiseCsumMismatch_ctl : s.raiseCsumMismatch.ctl = s.ctl := rfl
@[simp] theorem State.raiseCsumMismatch_cmds : s.raiseCsumMismatch.cmds = s.cmds := rfl
@[simp] theorem State.raiseCsumMismatch_rx : s.raiseCsumMismatch.rx = s.rx := rfl
@[simp] theorem State.raiseCsumMismatch_ovf : s.raiseCsumMismatch.ovf = s.ovf := rfl
@[simp] theorem State.raiseCsumMismatch_abd : s.raiseCsumMismatch.abd = s.abd := rfl
@[simp] theorem State.raiseCsumMismatch_rst : s.raiseCsumMismatch.rst = s.rst := rfl
@[simp] theorem State.raiseCsumMismatch_polls : s.raiseCsumMismatch.polls = s.polls := rfl
@[simp] theorem State.raiseCsumMismatch_reads : s.raiseCsumMismatch.reads = s.reads := rfl
@[simp] theorem State.raiseCsumMismatch_trace : s.raiseCsumMismatch.trace = s.trace ++ [.result .csumMismatch] := rfl
end

section
variable (s : State)
@[simp] theorem State.raiseDecodeLen_frm : s.raiseDecodeLen.frm = { s.frm with state := .idle } := rfl
@[simp] theorem State.raiseDecodeLen_cse : s.raiseDecodeLen.cse = s.cse := rfl
@[simp] theorem State.raiseDecodeLen_smp : s.raiseDecodeLen.smp = s.smp := rfl
@[simp] theorem State.raiseDecodeLen_hsm : s.raiseDecodeLen.hsm = s.hsm := rfl
@[simp] theorem State.raiseDecodeLen_lastRes : s.raiseDecodeLen.lastRes = .decodeLen := rfl
@[simp] theorem State.raiseDecodeLen_resValid : s.raiseDecodeLen.resValid = true := rfl
@[simp] theorem State.raiseDecodeLen_ctl : s.raiseDecodeLen.ctl = s.ctl := rfl
@[simp] theorem State.raiseDecodeLen_cmds : s.raiseDecodeLen.cmds = s.cmds := rfl
@[simp] theorem State.raiseDecodeLen_rx : s.raiseDecodeLen.rx = s.rx := rfl
@[simp] theorem State.raiseDecodeLen_ovf : s.raiseDecodeLen.ovf = s.ovf := rfl
@[simp] theorem State.raiseDecodeLen_abd : s.raiseDecodeLen.abd = s.abd := rfl
@[simp] theorem State.raiseDecodeLen_rst : s.raiseDecodeLen.rst = s.rst := rfl
@[simp] theorem State.raiseDecodeLen_polls : s.raiseDecodeLen.polls = s.polls := rfl
@[simp] theorem State.raiseDecodeLen_reads : s.raiseDecodeLen.reads = s.reads := rfl
@[simp] theorem State.raiseDecodeLen_trace : s.raiseDecodeLen.trace = s.trace ++ [.result .decodeLen] := rfl
end

section
variable (s : State)
@[simp] theorem State.raiseUnknownType_frm : s.raiseUnknownType.frm = { s.frm with state := .idle } := rfl
@[simp] theorem State.raiseUnknownType_cse : s.raiseUnknownType.cse = s.cse := rfl
@[simp] theorem State.raiseUnknownType_smp : s.raiseUnknownType.smp = { s.smp with dbgU16 := 0x00AA#16 } := rfl
@[simp] theorem State.raiseUnknownType_hsm : s.raiseUnknownType.hsm = s.hsm := rfl
@[simp] theorem State.raiseUnknownType_lastRes : s.raiseUnknownType.lastRes = .frameUnknown := rfl
@[simp] theorem State.raiseUnknownType_resValid : s.raiseUnknownType.resValid = true := rfl
@[simp] theorem State.raiseUnknownType_ctl : s.raiseUnknownType.ctl = s.ctl := rfl
@[simp] theorem State.raiseUnknownType_cmds : s.raiseUnknownType.cmds = s.cmds := rfl
@[simp] theorem State.raiseUnknownType_rx : s.raiseUnknownType.rx = s.rx := rfl
@[simp] theorem State.raiseUnknownType_ovf : s.raiseUnknownType.ovf = s.ovf := rfl
@[simp] theorem State.raiseUnknownType_abd : s.raiseUnknownType.abd = s.abd := rfl
@[simp] theorem State.raiseUnknownType_rst : s.raiseUnknownType.rst = s.rst := rfl
@[simp] theorem State.raiseUnknownType_polls : s.raiseUnknownType.polls = s.polls := rfl
@[simp] theorem State.raiseUnknownType_reads : s.raiseUnknownType.reads = s.reads := rfl
@[simp] theorem State.raiseUnknownType_trace : s.raiseUnknownType.trace = s.trace ++ [.result .frameUnknown] := rfl
end

section
variable (s : State)
@[simp] theorem State.raiseRejected_frm : s.raiseRejected.frm = s.frm := rfl
@[simp] theorem State.raiseRejected_cse : s.raiseRejected.cse = s.cse := rfl
@[simp] theorem State.raiseRejected_smp : s.raiseRejected.smp = s.smp := rfl
@[simp] theorem State.raiseRejected_hsm : s.raiseRejected.hsm = s.hsm := rfl
@[simp] theorem State.raiseRejected_lastRes : s.raiseRejected.lastRes = .rejected := rfl
@[simp] theorem State.raiseRejected_resValid : s.raiseRejected.resValid = true := rfl
@[simp] theorem State.raiseRejected_ctl : s.raiseRejected.ctl = s.ctl := rfl
@[simp] theorem State.raiseRejected_cmds : s.raiseRejected.cmds = s.cmds := rfl
@[simp] theorem State.raiseRejected_rx : s.raiseRejected.rx = s.rx := rfl
@[simp] theorem State.raiseRejected_ovf : s.raiseRejected.ovf = s.ovf := rfl
@[simp] theorem State.raiseRejected_abd : s.raiseRejected.abd = s.abd := rfl
@[simp] theorem State.raiseRejected_rst : s.raiseRejected.rst = s.rst := rfl
@[simp] theorem State.raiseRejected_polls : s.raiseRejected.polls = s.polls := rfl
@[simp] theorem State.raiseRejected_reads : s.raiseRejected.reads = s.reads := rfl
@[simp] theorem State.raiseRejected_trace : s.raiseRejected.trace = s.trace ++ [.result .rejected] := rfl
end

section
variable (s : State)
@[simp] theorem State.csClear_frm : s.csClear.frm = s.frm := rfl
@[simp] theorem State.csClear_cse : s.csClear.cse = { s.cse with acc := 0x00#8 } := rfl
@[simp] theorem State.csClear_smp : s.csClear.smp = s.smp := rfl
@[simp] theorem State.csClear_hsm : s.csClear.hsm = s.hsm := rfl
@[simp] theorem State.csClear_lastRes : s.csClear.lastRes = s.lastRes := rfl
@[simp] theorem State.csClear_resValid : s.csClear.resValid = s.resValid := rfl
@[simp] theorem State.csClear_ctl : s.csClear.ctl = s.ctl := rfl
@[simp] theorem State.csClear_cmds : s.csClear.cmds = s.cmds := rfl
@[simp] theorem State.csClear_rx : s.csClear.rx = s.rx := rfl
@[simp] theorem State.csClear_ovf : s.csClear.ovf = s.ovf := rfl
@[simp] theorem State.csClear_abd : s.csClear.abd = s.abd := rfl
@[simp] theorem State.csClear_rst : s.csClear.rst = s.rst := rfl
@[simp] theorem State.csClear_polls : s.csClear.polls = s.polls := rfl
@[simp] theorem State.csClear_reads : s.csClear.reads = s.reads := rfl
@[simp] theorem State.csClear_trace : s.csClear.trace = s.trace := rfl
end

section
variable (s : State) (b : Byte)
@[simp] theorem State.csAccumulate_frm : (s.csAccumulate b).frm = s.frm := rfl
@[simp] theorem State.csAccumulate_cse : (s.csAccumulate b).cse = { s.cse with acc := addByte s.cse.acc b } := rfl
@[simp] theorem State.csAccumulate_smp : (s.csAccumulate b).smp = s.smp := rfl
@[simp] theorem State.csAccumulate_hsm : (s.csAccumulate b).hsm = s.hsm := rfl
@[simp] theorem State.csAccumulate_lastRes : (s.csAccumulate b).lastRes = s.lastRes := rfl
@[simp] theorem State.csAccumulate_resValid : (s.csAccumulate b).resValid = s.resValid := rfl
@[simp] theorem State.csAccumulate_ctl : (s.csAccumulate b).ctl = s.ctl := rfl
@[simp] theorem State.csAccumulate_cmds : (s.csAccumulate b).cmds = s.cmds := rfl
@[simp] theorem State.csAccumulate_rx : (s.csAccumulate b).rx = s.rx := rfl
@[simp] theorem State.csAccumulate_ovf : (s.csAccumulate b).ovf = s.ovf := rfl
@[simp] theorem State.csAccumulate_abd : (s.csAccumulate b).abd = s.abd := rfl
@[simp] theorem State.csAccumulate_rst : (s.csAccumulate b).rst = s.rst := rfl
@[simp] theorem State.csAccumulate_polls : (s.csAccumulate b).polls = s.polls := rfl
@[simp] theorem State.csAccumulate_reads : (s.csAccumulate b).reads = s.reads := rfl
@[simp] theorem State.csAccumulate_trace : (s.csAccumulate b).trace = s.trace := rfl
end

section
variable (s : State) (h : HState)
@[simp] theorem State.setHState_frm : (s.setHState h).frm = s.frm := rfl
@[simp] theorem State.setHState_cse : (s.setHState h).cse = s.cse := rfl
@[simp] theorem State.setHState_smp : (s.setHState h).smp = s.smp := rfl
@[simp] theorem State.setHState_hsm : (s.setHState h).hsm = { s.hsm with state := h } := rfl
@[simp] theorem State.setHState_lastRes : (s.setHState h).lastRes = s.lastRes := rfl
@[simp] theorem State.setHState_resValid : (s.setHState h).resValid = s.resValid := rfl
@[simp] theorem State.setHState_ctl : (s.setHState h).ctl = s.ctl := rfl
@[simp] theorem State.setHState_cmds : (s.setHState h).cmds = s.cmds := rfl
@[simp] theorem State.setHState_rx : (s.setHState h).rx = s.rx := rfl
@[simp] theorem State.setHState_ovf : (s.setHState h).ovf = s.ovf := rfl
@[simp] theorem State.setHState_abd : (s.setHState h).abd = s.abd := rfl
@[simp] theorem State.setHState_rst : (s.setHState h).rst = s.rst := rfl
@[simp] theorem State.setHState_polls : (s.setHState h).polls = s.polls := rfl
@[simp] theorem State.setHState_reads : (s.setHState h).reads = s.reads := rfl
@[simp] theorem State.setHState_trace : (s.setHState h).trace = s.trace := rfl
end

section
variable (s : State) (f : FState)
@[simp] theorem State.setFState_frm : (s.setFState f).frm = { s.frm with state := f } := rfl
@[simp] theorem State.setFState_cse : (s.setFState f).cse = s.cse := rfl
@[simp] theorem State.setFState_smp : (s.setFState f).smp = s.smp := rfl
@[simp] theorem State.setFState_hsm : (s.setFState f).hsm = s.hsm := rfl
@[simp] theorem State.setFState_lastRes : (s.setFState f).lastRes = s.lastRes := rfl
@[simp] theorem State.setFState_resValid : (s.setFState f).resValid = s.resValid := rfl
@[simp] theorem State.setFState_ctl : (s.setFState f).ctl = s.ctl := rfl
@[simp] theorem State.setFState_cmds : (s.setFState f).cmds = s.cmds := rfl
@[simp] theorem State.setFState_rx : (s.setFState f).rx = s.rx := rfl
@[simp] theorem State.setFState_ovf : (s.setFState f).ovf = s.ovf := rfl
@[simp] theorem State.setFState_abd : (s.setFState f).abd = s.abd := rfl
@[simp] theorem State.setFState_rst : (s.setFState f).rst = s.rst := rfl
@[simp] theorem State.setFState_polls : (s.setFState f).polls = s.polls := rfl
@[simp] theorem State.setFState_reads : (s.setFState f).reads = s.reads := rfl
@[simp] theorem State.setFState_trace : (s.setFState f).trace = s.trace := rfl
end

section
variable (s : State) (m : Malf)
@[simp] theorem State.setMalf_frm : (s.setMalf m).frm = { s.frm with malf := m } := rfl
@[simp] theorem State.setMalf_cse : (s.setMalf m).cse = s.cse := rfl
@[simp] theorem State.setMalf_smp : (s.setMalf m).smp = s.smp := rfl
@[simp] theorem State.setMalf_hsm : (s.setMalf m).hsm = s.hsm := rfl
@[simp] theorem State.setMalf_lastRes : (s.setMalf m).lastRes = s.lastRes := rfl
@[simp] theorem State.setMalf_resValid : (s.setMalf m).resValid = s.resValid := rfl
@[simp] theorem State.setMalf_ctl : (s.setMalf m).ctl = s.ctl := rfl
@[simp] theorem State.setMalf_cmds : (s.setMalf m).cmds = s.cmds := rfl
@[simp] theorem State.setMalf_rx : (s.setMalf m).rx = s.rx := rfl
@[simp] theorem State.setMalf_ovf : (s.setMalf m).ovf = s.ovf := rfl
@[simp] theorem State.setMalf_abd : (s.setMalf m).abd = s.abd := rfl
@[simp] theorem State.setMalf_rst : (s.setMalf m).rst = s.rst := rfl
@[simp] theorem State.setMalf_polls : (s.setMalf m).polls = s.polls := rfl
@[simp] theorem State.setMalf_reads : (s.setMalf m).reads = s.reads := rfl
@[simp] theorem State.setMalf_trace : (s.setMalf m).trace = s.trace := rfl
end

section
variable (s : State)
@[simp] theorem State.hardReset_frm : s.hardReset.frm = State.reset.frm := rfl
@[simp] theorem State.hardReset_cse : s.hardReset.cse = State.reset.cse := rfl
@[simp] theorem State.hardReset_smp : s.hardReset.smp = State.reset.smp := rfl
@[simp] theorem State.hardReset_hsm : s.hardReset.hsm = State.reset.hsm := rfl
@[simp] theorem State.hardReset_lastRes : s.hardReset.lastRes = State.reset.lastRes := rfl
@[simp] theorem State.hardReset_resValid : s.hardReset.resValid = State.reset.resValid := rfl
@[simp] theorem State.hardReset_ctl : s.hardReset.ctl = s.ctl := rfl
@[simp] theorem State.hardReset_cmds : s.hardReset.cmds = s.cmds := rfl
@[simp] theorem State.hardReset_rx : s.hardReset.rx = s.rx := rfl
@[simp] theorem State.hardReset_ovf : s.hardReset.ovf = s.ovf := rfl
@[simp] theorem State.hardReset_abd : s.hardReset.abd = s.abd := rfl
@[simp] theorem State.hardReset_rst : s.hardReset.rst = s.rst := rfl
@[simp] theorem State.hardReset_polls : s.hardReset.polls = s.polls := rfl
@[simp] theorem State.hardReset_reads : s.hardReset.reads = s.reads := rfl
@[simp] theorem State.hardReset_trace : s.hardReset.trace = s.trace := rfl
end

section
variable (s : State)
@[simp] theorem State.beginStep_frm : s.beginStep.frm = s.frm := rfl
@[simp] theorem State.beginStep_cse : s.beginStep.cse = s.cse := rfl
@[simp] theorem State.beginStep_smp : s.beginStep.smp = s.smp := rfl
@[simp] theorem State.beginStep_hsm : s.beginStep.hsm = s.hsm := rfl
@[simp] theorem State.beginStep_lastRes : s.beginStep.lastRes = s.lastRes := rfl
@[simp] theorem State.beginStep_resValid : s.beginStep.resValid = false := rfl
@[simp] theorem State.beginStep_ctl : s.beginStep.ctl = s.ctl := rfl
@[simp] theorem State.beginStep_cmds : s.beginStep.cmds = s.cmds := rfl
@[simp] theorem State.beginStep_rx : s.beginStep.rx = s.rx := rfl
@[simp] theorem State.beginStep_ovf : s.beginStep.ovf = s.ovf := rfl
@[simp] theorem State.beginStep_abd : s.beginStep.abd = s.abd := rfl
@[simp] theorem State.beginStep_rst : s.beginStep.rst = s.rst.tail := rfl
@[simp] theorem State.beginStep_polls : s.beginStep.polls = s.polls := rfl
@[simp] theorem State.beginStep_reads : s.beginStep.reads = s.reads := rfl
@[simp] theorem State.beginStep_trace : s.beginStep.trace = s.trace := rfl
end

section
variable (s : State)
@[simp] theorem State.startRead_frm : s.startRead.frm = { s.frm with pktNBytes := 0#16, pktType := 0#16, bufNBytes := 0#16, payLen := 0#6, rxCsum := 0#8, malf := .none, idx := 0#16, state := .len0 } := rfl
@[simp] theorem State.startRead_cse : s.startRead.cse = { s.cse with acc := 0x00#8 } := rfl
@[simp] theorem State.startRead_smp : s.startRead.smp = s.smp := rfl
@[simp] theorem State.startRead_hsm : s.startRead.hsm = s.hsm := rfl
@[simp] theorem State.startRead_lastRes : s.startRead.lastRes = s.lastRes := rfl
@[simp] theorem State.startRead_resValid : s.startRead.resValid = s.resValid := rfl
@[simp] theorem State.startRead_ctl : s.startRead.ctl = s.ctl := rfl
@[simp] theorem State.startRead_cmds : s.startRead.cmds = s.cmds := rfl
@[simp] theorem State.startRead_rx : s.startRead.rx = s.rx := rfl
@[simp] theorem State.startRead_ovf : s.startRead.ovf = s.ovf := rfl
@[simp] theorem State.startRead_abd : s.startRead.abd = s.abd := rfl
@[simp] theorem State.startRead_rst : s.startRead.rst = s.rst := rfl
@[simp] theorem State.startRead_polls : s.startRead.polls = s.polls := rfl
@[simp] theorem State.startRead_reads : s.startRead.reads = s.reads := rfl
@[simp] theorem State.startRead_trace : s.startRead.trace = s.trace := rfl
end

section
variable (s : State)
@[simp] theorem State.startHandshake_frm : s.startHandshake.frm = s.frm := rfl
@[simp] theorem State.startHandshake_cse : s.startHandshake.cse = s.cse := rfl
@[simp] theorem State.startHandshake_smp : s.startHandshake.smp = s.smp := rfl
@[simp] theorem State.startHandshake_hsm : s.startHandshake.hsm = { s.hsm with echo := 0x00#8, echoV := false, state := .initClr } := rfl
@[simp] theorem State.startHandshake_lastRes : s.startHandshake.lastRes = s.lastRes := rfl
@[simp] theorem State.startHandshake_resValid : s.startHandshake.resValid = s.resValid := rfl
@[simp] theorem State.startHandshake_ctl : s.startHandshake.ctl = s.ctl := rfl
@[simp] theorem State.startHandshake_cmds : s.startHandshake.cmds = s.cmds := rfl
@[simp] theorem State.startHandshake_rx : s.startHandshake.rx = s.rx := rfl
@[simp] theorem State.startHandshake_ovf : s.startHandshake.ovf = s.ovf := rfl
@[simp] theorem State.startHandshake_abd : s.startHandshake.abd = s.abd := rfl
@[simp] theorem State.startHandshake_rst : s.startHandshake.rst = s.rst := rfl
@[simp] theorem State.startHandshake_polls : s.startHandshake.polls = s.polls := rfl
@[simp] theorem State.startHandshake_reads : s.startHandshake.reads = s.reads := rfl
@[simp] theorem State.startHandshake_trace : s.startHandshake.trace = s.trace := rfl
end

section
variable (s : State)
@[simp] theorem State.lock_frm : s.lock.frm = s.frm := rfl
@[simp] theorem State.lock_cse : s.lock.cse = s.cse := rfl
@[simp] theorem State.lock_smp : s.lock.smp = s.smp := rfl
@[simp] theorem State.lock_hsm : s.lock.hsm = { s.hsm with locked := true, echo := 0x00#8, echoV := false, state := .locked } := rfl
@[simp] theorem State.lock_lastRes : s.lock.lastRes = .hsLocked := rfl
@[simp] theorem State.lock_resValid : s.lock.resValid = true := rfl
@[simp] theorem State.lock_ctl : s.lock.ctl = s.ctl := rfl
@[simp] theorem State.lock_cmds : s.lock.cmds = s.cmds := rfl
@[simp] theorem State.lock_rx : s.lock.rx = s.rx := rfl
@[simp] theorem State.lock_ovf : s.lock.ovf = s.ovf := rfl
@[simp] theorem State.lock_abd : s.lock.abd = s.abd := rfl
@[simp] theorem State.lock_rst : s.lock.rst = s.rst := rfl
@[simp] theorem State.lock_polls : s.lock.polls = s.polls := rfl
@[simp] theorem State.lock_reads : s.lock.reads = s.reads := rfl
@[simp] theorem State.lock_trace : s.lock.trace = s.trace ++ [.result .hsLocked] := rfl
end

section
variable (s : State) (r : Byte) (h : HState)
@[simp] theorem State.storeEcho_frm : (s.storeEcho r h).frm = s.frm := rfl
@[simp] theorem State.storeEcho_cse : (s.storeEcho r h).cse = s.cse := rfl
@[simp] theorem State.storeEcho_smp : (s.storeEcho r h).smp = s.smp := rfl
@[simp] theorem State.storeEcho_hsm : (s.storeEcho r h).hsm = { s.hsm with echo := r, echoV := true, state := h } := rfl
@[simp] theorem State.storeEcho_lastRes : (s.storeEcho r h).lastRes = s.lastRes := rfl
@[simp] theorem State.storeEcho_resValid : (s.storeEcho r h).resValid = s.resValid := rfl
@[simp] theorem State.storeEcho_ctl : (s.storeEcho r h).ctl = s.ctl := rfl
@[simp] theorem State.storeEcho_cmds : (s.storeEcho r h).cmds = s.cmds := rfl
@[simp] theorem State.storeEcho_rx : (s.storeEcho r h).rx = s.rx := rfl
@[simp] theorem State.storeEcho_ovf : (s.storeEcho r h).ovf = s.ovf := rfl
@[simp] theorem State.storeEcho_abd : (s.storeEcho r h).abd = s.abd := rfl
@[simp] theorem State.storeEcho_rst : (s.storeEcho r h).rst = s.rst := rfl
@[simp] theorem State.storeEcho_polls : (s.storeEcho r h).polls = s.polls := rfl
@[simp] theorem State.storeEcho_reads : (s.storeEcho r h).reads = s.reads := rfl
@[simp] theorem State.storeEcho_trace : (s.storeEcho r h).trace = s.trace := rfl
end

section
variable (s : State)
@[simp] theorem State.sendInit_frm : s.sendInit.frm = s.frm := rfl
@[simp] theorem State.sendInit_cse : s.sendInit.cse = s.cse := rfl
@[simp] theorem State.sendInit_smp : s.sendInit.smp = s.smp := rfl
@[simp] theorem State.sendInit_hsm : s.sendInit.hsm = { s.hsm with state := .chkOvf } := rfl
@[simp] theorem State.sendInit_lastRes : s.sendInit.lastRes = s.lastRes := rfl
@[simp] theorem State.sendInit_resValid : s.sendInit.resValid = s.resValid := rfl
@[simp] theorem State.sendInit_ctl : s.sendInit.ctl = s.ctl := rfl
@[simp] theorem State.sendInit_cmds : s.sendInit.cmds = s.cmds := rfl
@[simp] theorem State.sendInit_rx : s.sendInit.rx = s.rx := rfl
@[simp] theorem State.sendInit_ovf : s.sendInit.ovf = s.ovf := rfl
@[simp] theorem State.sendInit_abd : s.sendInit.abd = s.abd := rfl
@[simp] theorem State.sendInit_rst : s.sendInit.rst = s.rst := rfl
@[simp] theorem State.sendInit_polls : s.sendInit.polls = s.polls := rfl
@[simp] theorem State.sendInit_reads : s.sendInit.reads = s.reads := rfl
@[simp] theorem State.sendInit_trace : s.sendInit.trace = s.trace ++ [.tx s.ctl.init] := rfl
end

section
variable (s : State) (h : HState)
@[simp] theorem State.sendConfirm_frm : (s.sendConfirm h).frm = s.frm := rfl
@[simp] theorem State.sendConfirm_cse : (s.sendConfirm h).cse = s.cse := rfl
@[simp] theorem State.sendConfirm_smp : (s.sendConfirm h).smp = s.smp := rfl
@[simp] theorem State.sendConfirm_hsm : (s.sendConfirm h).hsm = { s.hsm with state := h } := rfl
@[simp] theorem State.sendConfirm_lastRes : (s.sendConfirm h).lastRes = s.lastRes := rfl
@[simp] theorem State.sendConfirm_resValid : (s.sendConfirm h).resValid = s.resValid := rfl
@[simp] theorem State.sendConfirm_ctl : (s.sendConfirm h).ctl = s.ctl := rfl
@[simp] theorem State.sendConfirm_cmds : (s.sendConfirm h).cmds = s.cmds := rfl
@[simp] theorem State.sendConfirm_rx : (s.sendConfirm h).rx = s.rx := rfl
@[simp] theorem State.sendConfirm_ovf : (s.sendConfirm h).ovf = s.ovf := rfl
@[simp] theorem State.sendConfirm_abd : (s.sendConfirm h).abd = s.abd := rfl
@[simp] theorem State.sendConfirm_rst : (s.sendConfirm h).rst = s.rst := rfl
@[simp] theorem State.sendConfirm_polls : (s.sendConfirm h).polls = s.polls := rfl
@[simp] theorem State.sendConfirm_reads : (s.sendConfirm h).reads = s.reads := rfl
@[simp] theorem State.sendConfirm_trace : (s.sendConfirm h).trace = s.trace ++ [.tx s.ctl.confirm] := rfl
end

section
variable (s : State) (b : Byte)
@[simp] theorem State.len0Byte_frm : (State.len0Byte b s).frm = { s.frm with pktNBytes := beHalf b 0x00#8, state := .len1 } := rfl
@[simp] theorem State.len0Byte_cse : (State.len0Byte b s).cse = s.cse := rfl
@[simp] theorem State.len0Byte_smp : (State.len0Byte b s).smp = s.smp := rfl
@[simp] theorem State.len0Byte_hsm : (State.len0Byte b s).hsm = s.hsm := rfl
@[simp] theorem State.len0Byte_lastRes : (State.len0Byte b s).lastRes = s.lastRes := rfl
@[simp] theorem State.len0Byte_resValid : (State.len0Byte b s).resValid = s.resValid := rfl
@[simp] theorem State.len0Byte_ctl : (State.len0Byte b s).ctl = s.ctl := rfl
@[simp] theorem State.len0Byte_cmds : (State.len0Byte b s).cmds = s.cmds := rfl
@[simp] theorem State.len0Byte_rx : (State.len0Byte b s).rx = s.rx := rfl
@[simp] theorem State.len0Byte_ovf : (State.len0Byte b s).ovf = s.ovf := rfl
@[simp] theorem State.len0Byte_abd : (State.len0Byte b s).abd = s.abd := rfl
@[simp] theorem State.len0Byte_rst : (State.len0Byte b s).rst = s.rst := rfl
@[simp] theorem State.len0Byte_polls : (State.len0Byte b s).polls = s.polls := rfl
@[simp] theorem State.len0Byte_reads : (State.len0Byte b s).reads = s.reads := rfl
@[simp] theorem State.len0Byte_trace : (State.len0Byte b s).trace = s.trace := rfl
end

section
variable (s : State) (b : Byte)
@[simp] theorem State.storePayload_frm : (State.storePayload b s).frm = { s.frm with pay := Memory.write s.frm.pay (s.frm.idx.toNat - 4) b, payLen := BitVec.ofNat 6 (s.frm.idx.toNat - 3) } := rfl
@[simp] theorem State.storePayload_cse : (State.storePayload b s).cse = { s.cse with acc := addByte s.cse.acc b } := rfl
@[simp] theorem State.storePayload_smp : (State.storePayload b s).smp = s.smp := rfl
@[simp] theorem State.storePayload_hsm : (State.storePayload b s).hsm = s.hsm := rfl
@[simp] theorem State.storePayload_lastRes : (State.storePayload b s).lastRes = s.lastRes := rfl
@[simp] theorem State.storePayload_resValid : (State.storePayload b s).resValid = s.resValid := rfl
@[simp] theorem State.storePayload_ctl : (State.storePayload b s).ctl = s.ctl := rfl
@[simp] theorem State.storePayload_cmds : (State.storePayload b s).cmds = s.cmds := rfl
@[simp] theorem State.storePayload_rx : (State.storePayload b s).rx = s.rx := rfl
@[simp] theorem State.storePayload_ovf : (State.storePayload b s).ovf = s.ovf := rfl
@[simp] theorem State.storePayload_abd : (State.storePayload b s).abd = s.abd := rfl
@[simp] theorem State.storePayload_rst : (State.storePayload b s).rst = s.rst := rfl
@[simp] theorem State.storePayload_polls : (State.storePayload b s).polls = s.polls := rfl
@[simp] theorem State.storePayload_reads : (State.storePayload b s).reads = s.reads := rfl
@[simp] theorem State.storePayload_trace : (State.storePayload b s).trace = s.trace := rfl
end

section
variable (s : State)
@[simp] theorem State.chOvf_frm : s.chOvf.2.frm = s.frm := by unfold State.chOvf; split <;> rfl
@[simp] theorem State.chOvf_cse : s.chOvf.2.cse = s.cse := by unfold State.chOvf; split <;> rfl
@[simp] theorem State.chOvf_smp : s.chOvf.2.smp = s.smp := by unfold State.chOvf; split <;> rfl
@[simp] theorem State.chOvf_hsm : s.chOvf.2.hsm = s.hsm := by unfold State.chOvf; split <;> rfl
@[simp] theorem State.chOvf_lastRes : s.chOvf.2.lastRes = s.lastRes := by unfold State.chOvf; split <;> rfl
@[simp] theorem State.chOvf_resValid : s.chOvf.2.resValid = s.resValid := by unfold State.chOvf; split <;> rfl
@[simp] theorem State.chOvf_ctl : s.chOvf.2.ctl = s.ctl := by unfold State.chOvf; split <;> rfl
@[simp] theorem State.chOvf_cmds : s.chOvf.2.cmds = s.cmds := by unfold State.chOvf; split <;> rfl
@[simp] theorem State.chOvf_rx : s.chOvf.2.rx = s.rx := by unfold State.chOvf; split <;> rfl
@[simp] theorem State.chOvf_abd : s.chOvf.2.abd = s.abd := by unfold State.chOvf; split <;> rfl
@[simp] theorem State.chOvf_rst : s.chOvf.2.rst = s.rst := by unfold State.chOvf; split <;> rfl
@[simp] theorem State.chOvf_reads : s.chOvf.2.reads = s.reads := by unfold State.chOvf; split <;> rfl
@[simp] theorem State.chOvf_ovf : s.chOvf.2.ovf = s.ovf.tail := by
  unfold State.chOvf; split <;> rename_i h <;> rw [h] <;> rfl
@[simp] theorem State.chOvf_trace : s.chOvf.2.trace = s.trace ++ [.ovf s.chOvf.1] := by unfold State.chOvf; split <;> rfl
end

section
variable (s : State)
@[simp] theorem State.chAbd_frm : s.chAbd.2.frm = s.frm := by unfold State.chAbd; split <;> rfl
@[simp] theorem State.chAbd_cse : s.chAbd.2.cse = s.cse := by unfold State.chAbd; split <;> rfl
@[simp] theorem State.chAbd_smp : s.chAbd.2.smp = s.smp := by unfold State.chAbd; split <;> rfl
@[simp] theorem State.chAbd_hsm : s.chAbd.2.hsm = s.hsm := by unfold State.chAbd; split <;> rfl
@[simp] theorem State.chAbd_lastRes : s.chAbd.2.lastRes = s.lastRes := by unfold State.chAbd; split <;> rfl
@[simp] theorem State.chAbd_resValid : s.chAbd.2.resValid = s.resValid := by unfold State.chAbd; split <;> rfl
@[simp] theorem State.chAbd_ctl : s.chAbd.2.ctl = s.ctl := by unfold State.chAbd; split <;> rfl
@[simp] theorem State.chAbd_cmds : s.chAbd.2.cmds = s.cmds := by unfold State.chAbd; split <;> rfl
@[simp] theorem State.chAbd_rx : s.chAbd.2.rx = s.rx := by unfold State.chAbd; split <;> rfl
@[simp] theorem State.chAbd_ovf : s.chAbd.2.ovf = s.ovf := by unfold State.chAbd; split <;> rfl
@[simp] theorem State.chAbd_rst : s.chAbd.2.rst = s.rst := by unfold State.chAbd; split <;> rfl
@[simp] theorem State.chAbd_reads : s.chAbd.2.reads = s.reads := by unfold State.chAbd; split <;> rfl
@[simp] theorem State.chAbd_abd : s.chAbd.2.abd = s.abd.tail := by
  unfold State.chAbd; split <;> rename_i h <;> rw [h] <;> rfl
@[simp] theorem State.chAbd_trace : s.chAbd.2.trace = s.trace ++ [.abd s.chAbd.1] := by unfold State.chAbd; split <;> rfl
end

end Sys2Proof.Machine
end

