-- ==== Sys2Proof/Laws/Ops.lean ====
section
/-! SUPPORT. What each shared operation can do, said once: the reads of the channel, the decoder, completion, advance, the framer's
byte, the fetch and the step. -/

namespace Sys2Proof.Machine

/-! ### Reading the channel -/

/-- The answers depend on the list and the counter only. -/
theorem State.rxAnswer_congr (s t : State) (k : Nat) (hx : s.rx = t.rx) (hr : s.reads = t.reads) :
    s.rxAnswer k = t.rxAnswer k := by
  simp [State.rxAnswer, hx, hr]

theorem State.rxAnswer_cons (s : State) (a : Option Byte) (rest : List (Option Byte)) (h : s.rx = a :: rest) :
    s.rxAnswer 0 = a := by
  simp [State.rxAnswer, h]

theorem State.rxTake_cons (s : State) (a : Option Byte) (rest : List (Option Byte)) (h : s.rx = a :: rest) :
    s.rxTake = { s with rx := rest } := by
  simp [State.rxTake, h]

/-- After an attempt the next answer is the first one, in the list and past its end alike. -/
theorem State.rxTake_rxAnswer (s : State) (k : Nat) : s.rxTake.rxAnswer k = s.rxAnswer (k + 1) := by
  cases h : s.rx with
  | nil => simp [State.rxAnswer, h, Nat.add_comm, Nat.add_left_comm]
  | cons a rest => simp [State.rxAnswer, h]

theorem State.onRead_of_byte (s : State) (k : Byte → State → Outcome) (b : Byte) (h : s.rxAnswer 0 = some b) :
    s.onRead k = k b (s.rxTake.log (.rx b)) := by
  simp [State.onRead, State.chRead, h]

theorem State.onRead_of_none (s : State) (k : Byte → State → Outcome) (h : s.rxAnswer 0 = none) :
    s.onRead k = .next s.noByte := by
  simp [State.onRead, State.chRead, h]

/-- The two cases of a read. -/
theorem State.onRead_cases (s : State) (k : Byte → State → Outcome) :
    (∃ b, s.rxAnswer 0 = some b ∧ s.onRead k = k b (s.rxTake.log (.rx b))) ∨
    (s.rxAnswer 0 = none ∧ s.onRead k = .next s.noByte) := by
  cases h : s.rxAnswer 0 with
  | none => exact .inr ⟨rfl, s.onRead_of_none k h⟩
  | some b => exact .inl ⟨b, rfl, s.onRead_of_byte k b h⟩

/-! ### The decoder and the end of a read -/

/-- What decoding a frame does: a Sample and a result, the framer idle; nothing else changes. The Sample keeps `DBG_INT`, and
keeps everything where the result is DecodeLength (R128, R129). -/
theorem State.decodeFrameAs_spec (s : State) (t : Half) :
    ∃ smp c, s.decodeFrameAs t = ({ s with smp := smp } : State).finishFrame c ∧
      smp.dbgInt = s.smp.dbgInt ∧
      (c = .frameOk ∨ c = .frameUnknown ∨ c = .decodeLen ∧ smp = s.smp) := by
  have bad : ∃ smp c, s.raiseDecodeLen = ({ s with smp := smp } : State).finishFrame c ∧
      smp.dbgInt = s.smp.dbgInt ∧ (c = .frameOk ∨ c = .frameUnknown ∨ c = .decodeLen ∧ smp = s.smp) :=
    ⟨s.smp, .decodeLen, rfl, rfl, .inr (.inr ⟨rfl, rfl⟩)⟩
  unfold State.decodeFrameAs
  split
  · unfold State.decodeAttQ7
    split
    · exact ⟨_, .frameOk, rfl, rfl, .inl rfl⟩
    · exact bad
  split
  · unfold State.decodeAttF32
    split
    · exact ⟨_, .frameOk, rfl, rfl, .inl rfl⟩
    · exact bad
  split
  · unfold State.decodeDbgU16
    split
    · exact ⟨_, .frameOk, rfl, rfl, .inl rfl⟩
    · exact bad
  split
  · unfold State.decodeDbgF32
    split
    · exact ⟨_, .frameOk, rfl, rfl, .inl rfl⟩
    · exact bad
  · exact ⟨_, .frameUnknown, rfl, rfl, .inr (.inl rfl)⟩

/-- What completing a read does (R100): a Sample, a count and a result, the framer idle; nothing else changes. The Sample
changes only with `RES_FRAME_OK` or `RES_FRAME_UNKNOWN`, the count only with `RES_CSUM_MISMATCH`. -/
theorem State.complete_spec (s : State) :
    ∃ smp cnt c,
      s.complete = ({ s with smp := smp, cse := { s.cse with cnt := cnt } } : State).finishFrame c ∧
      smp.dbgInt = s.smp.dbgInt ∧ c.reserved = false ∧ c ≠ .none ∧ c ≠ .csDone ∧ c ≠ .hsLocked ∧ c ≠ .rejected ∧
      (smp = s.smp ∨ c = .frameOk ∨ c = .frameUnknown) ∧
      (c ≠ .csumMismatch ∧ cnt = s.cse.cnt ∨ c = .csumMismatch ∧ cnt = sat16Inc s.cse.cnt) := by
  unfold State.complete
  split
  · exact ⟨s.smp, s.cse.cnt, .malformed, rfl, rfl, rfl, by decide, by decide, by decide, by decide, .inl rfl,
      .inl ⟨by decide, rfl⟩⟩
  split
  · exact ⟨s.smp, sat16Inc s.cse.cnt, .csumMismatch, rfl, rfl, rfl, by decide, by decide, by decide, by decide, .inl rfl,
      .inr ⟨rfl, rfl⟩⟩
  · obtain ⟨smp, c, heq, hint, hc⟩ := s.decodeFrameAs_spec s.frm.pktType
    refine ⟨smp, s.cse.cnt, c, heq, hint, ?_⟩
    obtain rfl | rfl | ⟨rfl, rfl⟩ := hc
    · exact ⟨rfl, by decide, by decide, by decide, by decide, .inr (.inl rfl), .inl ⟨by decide, rfl⟩⟩
    · exact ⟨rfl, by decide, by decide, by decide, by decide, .inr (.inr rfl), .inl ⟨by decide, rfl⟩⟩
    · exact ⟨rfl, by decide, by decide, by decide, by decide, .inl rfl, .inl ⟨by decide, rfl⟩⟩

/-- Advance (R99) is completion at the last byte, one more index otherwise. -/
theorem State.advance_cases (s : State) :
    s.frm.idx.toNat + 1 = s.frm.pktNBytes.toNat ∧ s.advance = s.complete ∨
    s.frm.idx.toNat + 1 ≠ s.frm.pktNBytes.toNat ∧
      s.advance = { s with frm := { s.frm with idx := s.frm.idx + 1#16 } } := by
  unfold State.advance
  split
  · exact .inl ⟨‹_›, rfl⟩
  · exact .inr ⟨‹_›, rfl⟩

/-! ### The header -/

/-- What a header byte does: only the type, the length field and the cause can change. -/
theorem State.headerByte_spec (b : Byte) (s : State) :
    ∃ t n m, State.headerByte b s =
      { s with frm := { s.frm with pktType := t, bufNBytes := n, malf := m } } ∧
      (s.frm.idx.toNat ≤ 2 → m = s.frm.malf) := by
  unfold State.headerByte
  split
  · exact ⟨beHalf b 0x00#8, _, _, rfl, fun _ => rfl⟩
  split
  · exact ⟨_, _, _, rfl, fun _ => rfl⟩
  split
  · exact ⟨_, _, _, rfl, fun _ => rfl⟩
  · rename_i h0 h1 h2
    have hgt : ¬ s.frm.idx.toNat ≤ 2 := by
      intro hle
      have : s.frm.idx = 0#16 ∨ s.frm.idx = 1#16 ∨ s.frm.idx = 2#16 := by
        rcases (by omega : s.frm.idx.toNat = 0 ∨ s.frm.idx.toNat = 1 ∨ s.frm.idx.toNat = 2) with h | h | h
        · exact .inl (BitVec.eq_of_toNat_eq h)
        · exact .inr (.inl (BitVec.eq_of_toNat_eq h))
        · exact .inr (.inr (BitVec.eq_of_toNat_eq h))
      tauto
    unfold State.validateHeader
    split
    · exact ⟨_, _, _, rfl, fun h => absurd h hgt⟩
    · exact ⟨_, _, _, rfl, fun h => absurd h hgt⟩

/-! ### The rows of the sequencers and the step -/

theorem hstepRow_eq (h : HState) : hstepRow h =
    match h with
    | .idle => .hIdle | .initClr => .hInitClr | .initEn => .hInitEn | .txInit => .hTxInit | .chkOvf => .hChkOvf
    | .flush => .hFlush | .chkAbd => .hChkAbd | .disAbd => .hDisAbd | .txConf => .hTxConf | .rxEcho => .hRxEcho
    | .rtyTx => .hRtyTx | .rtyRx => .hRtyRx | .locked => .hLocked := by
  cases h <;> rfl

theorem fstepRow_eq (f : FState) : decodeFStep f.code =
    match f with
    | .idle => .fIdle | .len0 => .fLen0 | .len1 => .fLen1 | .body => .fBody := by
  cases f <;> rfl

/-- Every command word is one of the four commands (R67). -/
theorem decodeCmd_cases (w : CmdWord) :
    ∃ d, decodeCmd w = .csClr d ∨ decodeCmd w = .csAdd d ∨ decodeCmd w = .rdFrame d ∨ decodeCmd w = .hsStart d := by
  refine ⟨w.extractLsb' 0 8, ?_⟩
  unfold decodeCmd
  dsimp only
  split
  · exact .inl rfl
  split
  · exact .inr (.inl rfl)
  split
  · exact .inr (.inr (.inl rfl))
  · exact .inr (.inr (.inr rfl))

/-- The three framer rows at a state in flight: the byte's effect, or a stutter. -/
theorem exec_framer (s : State) (h : s.frm.state ≠ .idle) :
    exec (decodeFStep s.frm.state.code) s = s.onRead fun b t => t.framerByte b := by
  rw [fstepRow_eq]
  cases hf : s.frm.state with
  | idle => exact absurd hf h
  | len0 =>
    show execFLen0 s = _
    rw [execFLen0, if_pos hf]
    rcases s.onRead_cases fun b t => t.framerByte b with ⟨b, hb, e⟩ | ⟨hn, e⟩
    · rw [e, State.onRead_of_byte _ _ b hb]; simp [State.framerByte, hf]
    · rw [e, State.onRead_of_none _ _ hn]
  | len1 =>
    show execFLen1 s = _
    rw [execFLen1, if_pos hf]
    rcases s.onRead_cases fun b t => t.framerByte b with ⟨b, hb, e⟩ | ⟨hn, e⟩
    · rw [e, State.onRead_of_byte _ _ b hb]; simp [State.framerByte, hf]
    · rw [e, State.onRead_of_none _ _ hn]
  | body =>
    show execFBody s = _
    rw [execFBody, if_pos hf]
    rcases s.onRead_cases fun b t => t.framerByte b with ⟨b, hb, e⟩ | ⟨hn, e⟩
    · rw [e, State.onRead_of_byte _ _ b hb]; simp [State.framerByte, hf]
    · rw [e, State.onRead_of_none _ _ hn]

/-- A resting block with no command stays as it is. -/
theorem exec_rest (s : State) (hh : s.hsm.state.active = false) (hc : s.cmds = []) :
    exec (hstepRow s.hsm.state) s = .next s := by
  rw [hstepRow_eq]
  cases h : s.hsm.state <;> rw [h] at hh <;> first | exact absurd hh (by decide) | skip
  · show execHIdle s = _
    simp [execHIdle, State.presentsHsStart, hc]
  · show execHLocked s = _
    simp [execHLocked, State.presentsHsStart, hc]

/-- Everything a step can do, on the state `u` it begins in. -/
theorem step_cases (s : State) :
    s.rstNow = true ∧ step s = .next s.beginStep.hardReset ∨
    s.rstNow = false ∧
      (s.frm.state ≠ .idle ∧ step s = s.beginStep.onRead (fun b t => t.framerByte b) ∨
       s.frm.state = .idle ∧ s.hsm.state.active = true ∧ step s = exec (hstepRow s.hsm.state) s.beginStep ∨
       s.frm.state = .idle ∧ s.hsm.state.active = false ∧ s.cmds = [] ∧ step s = .next s.beginStep ∨
       s.frm.state = .idle ∧ s.hsm.state.active = false ∧
        ∃ w rest, s.cmds = w :: rest ∧ step s = exec (decodeCmd w) { s.beginStep with cmds := rest }) := by
  unfold step
  cases hr : s.rstNow with
  | true => exact .inl ⟨rfl, by simp⟩
  | false =>
    refine .inr ⟨rfl, ?_⟩
    simp only [Bool.false_eq_true, if_false]
    by_cases hf : s.frm.state = .idle
    · refine .inr ?_
      cases hh : s.hsm.state.active with
      | true => exact .inl ⟨hf, rfl, by simp [State.fetch, hf, hh]⟩
      | false =>
        refine .inr ?_
        cases hc : s.cmds with
        | nil =>
          refine .inl ⟨hf, rfl, rfl, ?_⟩
          have := exec_rest s.beginStep (by simpa using hh) (by simpa using hc)
          simpa [State.fetch, hf, hh, hc] using this
        | cons w rest => exact .inr ⟨hf, rfl, w, rest, rfl, by simp [State.fetch, hf, hh, hc]⟩
    · refine .inl ⟨hf, ?_⟩
      have := exec_framer s.beginStep (by simpa using hf)
      simpa [State.fetch, hf] using this

end Sys2Proof.Machine
end

