-- ==== Sys2Proof/Laws/PerInstr.lean ====
section
/-! SUPPORT. Statements about every instruction as syntax, one lemma per constructor: how many bytes its encoding has, which is
the width of its space (30_encoding.md R60, R63). -/

namespace Sys2Proof.Laws.EncodedLength

/-- The number of bytes an instruction's encoding has: two for a command word and a packet type, `2 + P` for a frame (R63), one
for every other code. -/
def size : Instr → Nat
  | .frame p _ => 2 + p.toNat
  | .csClr _ | .csAdd _ | .rdFrame _ | .hsStart _ | .ptAttQ7 | .ptAttF32 | .ptDbgU16 | .ptDbgF32 | .ptUnknown _ => 2
  | .ctlInit | .ctlConfirm | .ctlFail | .ctlRawlock | .ctlOther _ => 1
  | .hIdle | .hInitClr | .hInitEn | .hTxInit | .hChkOvf | .hFlush | .hChkAbd | .hDisAbd | .hTxConf | .hRxEcho
  | .hRtyTx | .hRtyRx | .hLocked => 1
  | .fIdle | .fLen0 | .fLen1 | .fBody => 1
  | .resNone | .resFrameOk | .resFrameUnknown | .resCsumMismatch | .resMalformed | .resDecodeLen | .resHsLocked
  | .resRejected | .resCsDone | .resRsvdTimeout | .resRsvdBudget => 1
  | .mfNone | .mfHdrTrunc | .mfCapacity | .mfOverrun | .mfSlack => 1

/-- The encoding of a well-formed instruction has the length of its space. -/
def Statement (i : Instr) : Prop :=
  ∀ c : CtrlBytes, i.wf c = true → (encode c i).length = size i

theorem csClr (data : Byte) : Statement (.csClr data) := fun _ _ => rfl
theorem csAdd (b : Byte) : Statement (.csAdd b) := fun _ _ => rfl
theorem rdFrame (data : Byte) : Statement (.rdFrame data) := fun _ _ => rfl
theorem hsStart (data : Byte) : Statement (.hsStart data) := fun _ _ => rfl
theorem frame (p : Half) (body : List Byte) : Statement (.frame p body) := by
  intro c h
  simp only [Instr.wf, beq_iff_eq] at h
  simp only [encode, size, List.length_cons, h]
  omega
theorem ptAttQ7 : Statement .ptAttQ7 := fun _ _ => rfl
theorem ptAttF32 : Statement .ptAttF32 := fun _ _ => rfl
theorem ptDbgU16 : Statement .ptDbgU16 := fun _ _ => rfl
theorem ptDbgF32 : Statement .ptDbgF32 := fun _ _ => rfl
theorem ptUnknown (t : Half) : Statement (.ptUnknown t) := fun _ _ => rfl
theorem ctlInit : Statement .ctlInit := fun _ _ => rfl
theorem ctlConfirm : Statement .ctlConfirm := fun _ _ => rfl
theorem ctlFail : Statement .ctlFail := fun _ _ => rfl
theorem ctlRawlock : Statement .ctlRawlock := fun _ _ => rfl
theorem ctlOther (v : Byte) : Statement (.ctlOther v) := fun _ _ => rfl
theorem hIdle : Statement .hIdle := fun _ _ => rfl
theorem hInitClr : Statement .hInitClr := fun _ _ => rfl
theorem hInitEn : Statement .hInitEn := fun _ _ => rfl
theorem hTxInit : Statement .hTxInit := fun _ _ => rfl
theorem hChkOvf : Statement .hChkOvf := fun _ _ => rfl
theorem hFlush : Statement .hFlush := fun _ _ => rfl
theorem hChkAbd : Statement .hChkAbd := fun _ _ => rfl
theorem hDisAbd : Statement .hDisAbd := fun _ _ => rfl
theorem hTxConf : Statement .hTxConf := fun _ _ => rfl
theorem hRxEcho : Statement .hRxEcho := fun _ _ => rfl
theorem hRtyTx : Statement .hRtyTx := fun _ _ => rfl
theorem hRtyRx : Statement .hRtyRx := fun _ _ => rfl
theorem hLocked : Statement .hLocked := fun _ _ => rfl
theorem fIdle : Statement .fIdle := fun _ _ => rfl
theorem fLen0 : Statement .fLen0 := fun _ _ => rfl
theorem fLen1 : Statement .fLen1 := fun _ _ => rfl
theorem fBody : Statement .fBody := fun _ _ => rfl
theorem resNone : Statement .resNone := fun _ _ => rfl
theorem resFrameOk : Statement .resFrameOk := fun _ _ => rfl
theorem resFrameUnknown : Statement .resFrameUnknown := fun _ _ => rfl
theorem resCsumMismatch : Statement .resCsumMismatch := fun _ _ => rfl
theorem resMalformed : Statement .resMalformed := fun _ _ => rfl
theorem resDecodeLen : Statement .resDecodeLen := fun _ _ => rfl
theorem resHsLocked : Statement .resHsLocked := fun _ _ => rfl
theorem resRejected : Statement .resRejected := fun _ _ => rfl
theorem resCsDone : Statement .resCsDone := fun _ _ => rfl
theorem resRsvdTimeout : Statement .resRsvdTimeout := fun _ _ => rfl
theorem resRsvdBudget : Statement .resRsvdBudget := fun _ _ => rfl
theorem mfNone : Statement .mfNone := fun _ _ => rfl
theorem mfHdrTrunc : Statement .mfHdrTrunc := fun _ _ => rfl
theorem mfCapacity : Statement .mfCapacity := fun _ _ => rfl
theorem mfOverrun : Statement .mfOverrun := fun _ _ => rfl
theorem mfSlack : Statement .mfSlack := fun _ _ => rfl

end Sys2Proof.Laws.EncodedLength
end

