-- ==== Sys2Proof/Laws/Step.lean ====
section
/-! SUPPORT. What a step of each unit can do, said once: the framer's byte, the polls, the handshake's step, a command; and the
steps of a handshake in flight, with one round of each of its loops. -/

namespace Sys2Proof.Machine
/-- What a received byte does to the framer in flight: it writes Frame registers and the sum (`f`, `a`), then the read goes on or
is completed (R99, R100). The cause is decided in the length field and at header index 3 only; one cell of `PAY` is
written, by a payload byte of a well-formed frame only (R96). -/
theorem State.framerByte_next (b : Byte) (w t : State) (hs : w.frm.state ≠ .idle) (h : w.framerByte b = .next t) :
    ∃ f a,
      (t = { w with frm := f, cse := { w.cse with acc := a } } ∧ f.state ≠ .idle ∨
       t = ({ w with frm := f, cse := { w.cse with acc := a } } : State).complete ∧
        (f.malf = .none → w.frm.state = .body)) ∧
      (w.frm.state = .body → w.frm.idx.toNat ≤ 2 ∨ 4 ≤ w.frm.idx.toNat → f.malf = w.frm.malf) ∧
      (f.pay = w.frm.pay ∨ w.frm.state = .body ∧ w.frm.malf = .none ∧ 4 ≤ w.frm.idx.toNat ∧
        w.frm.idx.toNat < 4 + w.frm.bufNBytes.toNat ∧ w.frm.idx.toNat - 4 < payCap ∧
        f.pay = Memory.write w.frm.pay (w.frm.idx.toNat - 4) b) := by
  unfold State.framerByte at h
  cases hst : w.frm.state with
  | idle => exact absurd hst hs
  | len0 =>
    rw [hst] at h
    exact ⟨_, _, .inl ⟨(Host.Outcome.next.inj h).symm, by simp⟩, by simp, .inl rfl⟩
  | len1 =>
    rw [hst] at h
    obtain rfl := Host.Outcome.next.inj h
    unfold State.len1Byte
    dsimp only
    split
    · exact ⟨_, _, .inr ⟨rfl, by simp⟩, by simp, .inl rfl⟩
    · split
      · exact ⟨_, _, .inl ⟨rfl, by simp⟩, by simp, .inl rfl⟩
      · exact ⟨_, _, .inl ⟨rfl, by simp⟩, by simp, .inl rfl⟩
  | body =>
    rw [hst] at h
    have adv : ∀ f a (t : State), t = ({ w with frm := f, cse := { w.cse with acc := a } } : State).advance →
      f.state = .body → (w.frm.idx.toNat ≤ 2 ∨ 4 ≤ w.frm.idx.toNat → f.malf = w.frm.malf) →
      (f.pay = w.frm.pay ∨ w.frm.malf = .none ∧ 4 ≤ w.frm.idx.toNat ∧
        w.frm.idx.toNat < 4 + w.frm.bufNBytes.toNat ∧ w.frm.idx.toNat - 4 < payCap ∧
        f.pay = Memory.write w.frm.pay (w.frm.idx.toNat - 4) b) →
      ∃ f a,
      (t = { w with frm := f, cse := { w.cse with acc := a } } ∧ f.state ≠ .idle ∨
       t = ({ w with frm := f, cse := { w.cse with acc := a } } : State).complete ∧
        (f.malf = .none → FState.body = .body)) ∧
      (FState.body = .body → w.frm.idx.toNat ≤ 2 ∨ 4 ≤ w.frm.idx.toNat → f.malf = w.frm.malf) ∧
      (f.pay = w.frm.pay ∨ FState.body = .body ∧ w.frm.malf = .none ∧ 4 ≤ w.frm.idx.toNat ∧
        w.frm.idx.toNat < 4 + w.frm.bufNBytes.toNat ∧ w.frm.idx.toNat - 4 < payCap ∧
        f.pay = Memory.write w.frm.pay (w.frm.idx.toNat - 4) b) := by
      intro f a t ht hb hm hp
      rcases State.advance_cases { w with frm := f, cse := { w.cse with acc := a } } with ⟨_, e⟩ | ⟨_, e⟩
      · exact ⟨f, a, .inr ⟨ht.trans e, fun _ => rfl⟩, fun _ => hm, by simpa using hp⟩
      · exact ⟨_, a, .inl ⟨ht.trans e, by simp [hb]⟩, fun _ => hm, by simpa using hp⟩
    change w.bodyByte b = _ at h
    unfold State.bodyByte at h
    split at h
    · obtain ⟨ty, n, m, e, hm⟩ := State.headerByte_spec b w
      have h := (Host.Outcome.next.inj h).symm
      rw [e] at h
      refine adv _ w.cse.acc t h hst (fun hi => ?_) (.inl rfl)
      rcases hi with hi | hi
      · exact hm hi
      · omega
    split at h
    · exact adv w.frm w.cse.acc t (Host.Outcome.next.inj h).symm hst (fun _ => rfl) (.inl rfl)
    rename_i hmalf
    split at h
    · split at h
      · exact adv _ _ t (Host.Outcome.next.inj h).symm hst (fun _ => rfl)
          (.inr ⟨not_not.mp hmalf, by omega, ‹_›, ‹_›, rfl⟩)
      · cases h
    split at h
    · exact adv _ w.cse.acc t (Host.Outcome.next.inj h).symm hst (fun _ => rfl) (.inl rfl)
    · cases h


/-- A poll answers something, takes at most one answer off its list and joins the trace. -/
theorem State.chOvf_spec (s : State) :
    ∃ v l p, s.chOvf = (v, { s with ovf := l, polls := p }.log (.ovf v)) := by
  unfold State.chOvf
  split
  · exact ⟨_, _, s.polls, rfl⟩
  · rename_i h
    exact ⟨_, [], _, by rw [← h]⟩

theorem State.chAbd_spec (s : State) :
    ∃ v l p, s.chAbd = (v, { s with abd := l, polls := p }.log (.abd v)) := by
  unfold State.chAbd
  split
  · exact ⟨_, _, s.polls, rfl⟩
  · rename_i h
    exact ⟨_, [], _, by rw [← h]⟩

/-- What a handshake step can do: the session, the channel's lists and the trace change, and nothing else, but for the result of
a lock (R137 to R149). -/
theorem exec_hstep (s t : State) (ha : s.hsm.state.active = true) (h : exec (hstepRow s.hsm.state) s = .next t) :
    ∃ hs rx reads ovf abd polls evs,
      (t = { s with hsm := hs, rx := rx, reads := reads, ovf := ovf, abd := abd, polls := polls, trace := s.trace ++ evs } ∧
          hs.state ≠ .locked ∧ hs.locked = s.hsm.locked ∧
          (hs.abdEn = s.hsm.abdEn ∨ hs.state = .txInit ∧ hs.abdEn = true ∨
            hs.state = .txConf ∧ hs.abdEn = false) ∨
        t = { s with
          hsm := hs, rx := rx, reads := reads, ovf := ovf, abd := abd, polls := polls, lastRes := .hsLocked, resValid := true,
          trace := s.trace ++ evs ++ [.result .hsLocked] } ∧
          hs.state = .locked ∧ hs.locked = true ∧ hs.echoV = false ∧ hs.abdEn = s.hsm.abdEn ∧
          (s.hsm.state = .rxEcho ∨ s.hsm.state = .rtyRx)) ∧
      (∀ c, Event.result c ∉ evs) ∧ (evs.filter Event.isChannelOp).length ≤ 1 ∧ Event.rdFrame ∉ evs ∧
      (s.hsm.state ≠ .txInit → s.hsm.state ≠ .txConf → s.hsm.state ≠ .rtyTx → sentBytes evs = []) ∧
      (s.hsm.state ≠ .chkOvf → s.hsm.state ≠ .chkAbd → ovf = s.ovf ∧ abd = s.abd ∧ polls = s.polls) := by
  rw [hstepRow_eq] at h
  cases hh : s.hsm.state <;> rw [hh] at h ha <;> simp only [] at h
  case idle => cases ha
  case locked => cases ha
  case initClr =>
    simp only [exec, execHInitClr, hh, if_true] at h
    refine ⟨_, s.rx, s.reads, s.ovf, s.abd, s.polls, _, .inl ⟨(Host.Outcome.next.inj h).symm, ?_⟩, ?_⟩ <;>
      simp [List.filter_cons, Event.isChannelOp, sentBytes]
  case initEn =>
    simp only [exec, execHInitEn, hh, if_true] at h
    refine ⟨_, s.rx, s.reads, s.ovf, s.abd, s.polls, _, .inl ⟨(Host.Outcome.next.inj h).symm, ?_⟩, ?_⟩ <;>
      simp [List.filter_cons, Event.isChannelOp, sentBytes]
  case txInit =>
    simp only [exec, execHTxInit, hh, if_true] at h
    refine ⟨_, s.rx, s.reads, s.ovf, s.abd, s.polls, _, .inl ⟨(Host.Outcome.next.inj h).symm, ?_⟩, ?_⟩ <;>
      simp [List.filter_cons, Event.isChannelOp, sentBytes]
  case flush =>
    simp only [exec, execHFlush, hh, if_true] at h
    refine ⟨_, s.rx, s.reads, s.ovf, s.abd, s.polls, _, .inl ⟨(Host.Outcome.next.inj h).symm, ?_⟩, ?_⟩ <;>
      simp [List.filter_cons, Event.isChannelOp, sentBytes]
  case disAbd =>
    simp only [exec, execHDisAbd, hh, if_true] at h
    refine ⟨_, s.rx, s.reads, s.ovf, s.abd, s.polls, _, .inl ⟨(Host.Outcome.next.inj h).symm, ?_⟩, ?_⟩ <;>
      simp [List.filter_cons, Event.isChannelOp, sentBytes]
  case txConf =>
    simp only [exec, execHTxConf, hh, if_true] at h
    refine ⟨_, s.rx, s.reads, s.ovf, s.abd, s.polls, _, .inl ⟨(Host.Outcome.next.inj h).symm, ?_⟩, ?_⟩ <;>
      simp [List.filter_cons, Event.isChannelOp, sentBytes]
  case rtyTx =>
    simp only [exec, execHRtyTx, hh, if_true] at h
    refine ⟨_, s.rx, s.reads, s.ovf, s.abd, s.polls, _, .inl ⟨(Host.Outcome.next.inj h).symm, ?_⟩, ?_⟩ <;>
      simp [List.filter_cons, Event.isChannelOp, sentBytes]
  case chkOvf =>
    simp only [exec, execHChkOvf, hh, if_true] at h
    obtain ⟨v, l, p, e⟩ := s.chOvf_spec
    rw [e] at h
    refine ⟨_, s.rx, s.reads, _, s.abd, _, _, .inl ⟨(Host.Outcome.next.inj h).symm, ?_⟩, ?_⟩ <;>
      simp [List.filter_cons, Event.isChannelOp, sentBytes]
    split <;> simp
  case chkAbd =>
    simp only [exec, execHChkAbd, hh, if_true] at h
    obtain ⟨v, l, p, e⟩ := s.chAbd_spec
    rw [e] at h
    refine ⟨_, s.rx, s.reads, s.ovf, _, _, _, .inl ⟨(Host.Outcome.next.inj h).symm, ?_⟩, ?_⟩ <;>
      simp [List.filter_cons, Event.isChannelOp, sentBytes]
    split <;> simp
  case rxEcho =>
    simp only [exec, execHRxEcho, hh, if_true] at h
    rcases s.onRead_cases fun r t => Host.Outcome.next (t.rxEchoByte r) with ⟨b, hb, e⟩ | ⟨hn, e⟩
    · rw [e] at h
      have h := (Host.Outcome.next.inj h).symm
      unfold State.rxEchoByte at h
      split at h
      · refine ⟨_, _, _, s.ovf, s.abd, s.polls, [.rx b], .inr ⟨h, ?_⟩, ?_⟩ <;>
      simp [List.filter_cons, Event.isChannelOp, sentBytes]
      · refine ⟨_, _, _, s.ovf, s.abd, s.polls, [.rx b], .inl ⟨h, ?_⟩, ?_⟩ <;>
      simp [List.filter_cons, Event.isChannelOp, sentBytes]
      · refine ⟨_, _, _, s.ovf, s.abd, s.polls, [.rx b, .handshakeFailure], .inl ⟨by rw [h]; simp only [State.log, State.storeEcho, State.rxTake, List.append_assoc]; rfl, ?_⟩, ?_⟩ <;>
      simp [List.filter_cons, Event.isChannelOp, sentBytes]
    · rw [e] at h
      have h := (Host.Outcome.next.inj h).symm
      refine ⟨s.hsm, _, _, s.ovf, s.abd, s.polls, [], .inl ⟨by rw [h, List.append_nil]; rfl, ?_⟩, ?_⟩ <;>
      simp [sentBytes, hh]
  case rtyRx =>
    simp only [exec, execHRtyRx, hh, if_true] at h
    rcases s.onRead_cases fun r t => Host.Outcome.next (t.rtyRxByte r) with ⟨b, hb, e⟩ | ⟨hn, e⟩
    · rw [e] at h
      have h := (Host.Outcome.next.inj h).symm
      unfold State.rtyRxByte at h
      split at h
      · refine ⟨_, _, _, s.ovf, s.abd, s.polls, [.rx b], .inr ⟨h, ?_⟩, ?_⟩ <;>
      simp [List.filter_cons, Event.isChannelOp, sentBytes]
      · refine ⟨_, _, _, s.ovf, s.abd, s.polls, [.rx b], .inl ⟨h, ?_⟩, ?_⟩ <;>
      simp [List.filter_cons, Event.isChannelOp, sentBytes]
    · rw [e] at h
      have h := (Host.Outcome.next.inj h).symm
      refine ⟨s.hsm, _, _, s.ovf, s.abd, s.polls, [], .inl ⟨by rw [h, List.append_nil]; rfl, ?_⟩, ?_⟩ <;>
      simp [sentBytes, hh]

/-- `decodeCmd` of a word put together from its fields (R67). -/
theorem decodeCmd_append (op : BitVec 2) (d : Byte) :
    decodeCmd (op ++ d : BitVec (2 + 8)) =
      if op = 0b00#2 then .csClr d else if op = 0b01#2 then .csAdd d else if op = 0b10#2 then .rdFrame d else .hsStart d := by
  have hop : BitVec.extractLsb' 8 2 (op ++ d : BitVec (2 + 8)) = op := by
    apply BitVec.eq_of_toNat_eq
    have := op.isLt
    have := d.isLt
    rw [BitVec.extractLsb'_toNat, BitVec.toNat_append, ← Nat.shiftLeft_add_eq_or_of_lt d.isLt, Nat.shiftRight_eq_div_pow,
      Nat.shiftLeft_eq]
    omega
  have hd : BitVec.extractLsb' 0 8 (op ++ d : BitVec (2 + 8)) = d := by
    apply BitVec.eq_of_toNat_eq
    have := d.isLt
    rw [BitVec.extractLsb'_toNat, BitVec.toNat_append, ← Nat.shiftLeft_add_eq_or_of_lt d.isLt, Nat.shiftRight_eq_div_pow,
      Nat.shiftLeft_eq]
    omega
  unfold decodeCmd
  simp only []
  rw [hop, hd]

/-- What a command accepted by an idle block does (R81 to R84). -/
theorem exec_cmd (w : CmdWord) (s : State) (hb : s.busy = false) :
    exec (decodeCmd w) s = .next ((s.log .csClr).csClear.emit .csDone) ∨
    (∃ b, exec (decodeCmd w) s = .next (((s.log (.csAdd b)).csAccumulate b).emit .csDone)) ∨
    exec (decodeCmd w) s = .next (s.log .rdFrame).startRead ∨
    s.hsm.state ≠ .locked ∧ exec (decodeCmd w) s = .next (s.log .hsStart).startHandshake ∨
    s.hsm.state = .locked ∧ exec (decodeCmd w) s = .next (s.log .hsStart).raiseRejected := by
  obtain ⟨d, h | h | h | h⟩ := decodeCmd_cases w <;> rw [h]
  · exact .inl (by simp [exec, execCsClr, hb])
  · exact .inr (.inl ⟨d, by simp [exec, execCsAdd, hb]⟩)
  · exact .inr (.inr (.inl (by simp [exec, execRdFrame, hb])))
  · by_cases hl : s.hsm.state = .locked
    · exact .inr (.inr (.inr (.inr ⟨hl, by simp [exec, execHsStart, hb, hl]⟩)))
    · exact .inr (.inr (.inr (.inl ⟨hl, by simp [exec, execHsStart, hb, hl]⟩)))

theorem State.rstNow_false (s : State) (h : s.rst.head? ≠ some true) : s.rstNow = false := by
  unfold State.rstNow
  cases hr : s.rst <;> simp_all

/-- Every next state a step without reset can give: the framer finds no byte or takes one; the handshake's step; an idle block
with no command; an idle block that accepts one of the commands. -/
theorem step_next (s t : State) (h : step s = .next t) (hr : s.rst.head? ≠ some true) :
    (s.frm.state ≠ .idle ∧ (t = s.beginStep.noByte ∨
      ∃ b, s.rxAnswer 0 = some b ∧ State.framerByte b (s.beginStep.rxTake.log (.rx b)) = .next t)) ∨
    (s.frm.state = .idle ∧ s.hsm.state.active = true ∧ exec (hstepRow s.hsm.state) s.beginStep = .next t) ∨
    (s.frm.state = .idle ∧ s.hsm.state.active = false ∧ s.cmds = [] ∧ t = s.beginStep) ∨
    (s.frm.state = .idle ∧ s.hsm.state.active = false ∧
      ∃ w rest u, s.cmds = w :: rest ∧ u = { s.beginStep with cmds := rest } ∧
      (t = (u.log .csClr).csClear.emit .csDone ∨ (∃ b, t = ((u.log (.csAdd b)).csAccumulate b).emit .csDone) ∨
        t = (u.log .rdFrame).startRead ∨ s.hsm.state = .idle ∧ t = (u.log .hsStart).startHandshake ∨
        s.hsm.state = .locked ∧ t = (u.log .hsStart).raiseRejected)) := by
  rcases step_cases s with ⟨e, _⟩ | ⟨_, ⟨hf, e⟩ | ⟨hf, ha, e⟩ | ⟨hf, ha, hc, e⟩ | ⟨hf, ha, w, rest, hc, e⟩⟩
  · rw [s.rstNow_false hr] at e
    cases e
  · refine .inl ⟨hf, ?_⟩
    rw [e] at h
    rcases s.beginStep.onRead_cases (fun b t => t.framerByte b) with ⟨b, hb, e2⟩ | ⟨hn, e2⟩
    · rw [e2] at h
      exact .inr ⟨b, (s.rxAnswer_congr s.beginStep 0 rfl rfl).trans hb, h⟩
    · rw [e2] at h
      exact .inl (Host.Outcome.next.inj h).symm
  · exact .inr (.inl ⟨hf, ha, by rw [← e, h]⟩)
  · exact .inr (.inr (.inl ⟨hf, ha, hc, by rw [e] at h; exact (Host.Outcome.next.inj h).symm⟩))
  · refine .inr (.inr (.inr ⟨hf, ha, w, rest, _, hc, rfl, ?_⟩))
    rw [e] at h
    rcases exec_cmd w { s.beginStep with cmds := rest } (by simpa [State.busy, hf] using ha) with
      e | ⟨b, e⟩ | e | ⟨hl, e⟩ | ⟨hl, e⟩ <;> rw [e] at h <;> have h := (Host.Outcome.next.inj h).symm
    · exact .inl h
    · exact .inr (.inl ⟨b, h⟩)
    · exact .inr (.inr (.inl h))
    · have hl : s.hsm.state ≠ .locked := hl
      refine .inr (.inr (.inr (.inl ⟨?_, h⟩)))
      cases hh : s.hsm.state <;> simp_all [HState.active]
    · exact .inr (.inr (.inr (.inr ⟨hl, h⟩)))

/-! ### The steps of a handshake in flight, and one round of each loop that R152 leaves unbounded -/

/-- A run goes on from the step's next state. -/
theorem run_next (n : Nat) (s t : State) (h : step s = .next t) : Host.Core.run core (n + 1) s = Host.Core.run core n t := by
  simp only [Host.Core.run, core, h]

/-- A step of a handshake in flight, no reset at hand, runs its row. -/
theorem step_active (s : State) (hf : s.frm.state = .idle) (ha : s.hsm.state.active = true) (hr : s.rst = []) :
    step s = exec (hstepRow s.hsm.state) { s with resValid := false } := by
  have hb : s.beginStep = { s with resValid := false } := by simp [State.beginStep, State.strobeLow, hr]
  simp [step, State.rstNow, State.fetch, hf, ha, hr, hb]

section
variable (s : State) (hf : s.frm.state = .idle) (hr : s.rst = [])
include hf hr

theorem step_initClr (hh : s.hsm.state = .initClr) : step s = .next { s with
    hsm := { s.hsm with state := .initEn }, resValid := false, trace := s.trace ++ [.abdClr] } := by
  rw [step_active s hf (by rw [hh]; rfl) hr, hh, hstepRow_eq]
  simp [exec, execHInitClr, hh, State.chAbdClear, State.log, State.setHState]

theorem step_initEn (hh : s.hsm.state = .initEn) : step s = .next { s with
    hsm := { s.hsm with abdEn := true, state := .txInit }, resValid := false, trace := s.trace ++ [.abdEn] } := by
  rw [step_active s hf (by rw [hh]; rfl) hr, hh, hstepRow_eq]
  simp [exec, execHInitEn, hh, State.chAbdEnable, State.log, State.setHState]

theorem step_txInit (hh : s.hsm.state = .txInit) : step s = .next { s with
    hsm := { s.hsm with state := .chkOvf }, resValid := false, trace := s.trace ++ [.tx s.ctl.init] } := by
  rw [step_active s hf (by rw [hh]; rfl) hr, hh, hstepRow_eq]
  simp [exec, execHTxInit, hh, State.sendInit, State.chWrite, State.log, State.setHState]

theorem step_chkOvf (hh : s.hsm.state = .chkOvf) (v : Bool) (o : List Bool) (ho : s.ovf = v :: o) : step s = .next { s with
    hsm := { s.hsm with state := if v then .flush else .chkAbd }, ovf := o, resValid := false,
    trace := s.trace ++ [.ovf v] } := by
  rw [step_active s hf (by rw [hh]; rfl) hr, hh, hstepRow_eq]
  simp [exec, execHChkOvf, hh, State.chOvf, ho, State.log, State.setHState]

theorem step_chkAbd (hh : s.hsm.state = .chkAbd) (v : Bool) (a : List Bool) (ha : s.abd = v :: a) : step s = .next { s with
    hsm := { s.hsm with state := if v then .disAbd else .txInit }, abd := a, resValid := false,
    trace := s.trace ++ [.abd v] } := by
  rw [step_active s hf (by rw [hh]; rfl) hr, hh, hstepRow_eq]
  simp [exec, execHChkAbd, hh, State.chAbd, ha, State.log, State.setHState]

theorem step_disAbd (hh : s.hsm.state = .disAbd) : step s = .next { s with
    hsm := { s.hsm with abdEn := false, state := .txConf }, resValid := false, trace := s.trace ++ [.abdDis] } := by
  rw [step_active s hf (by rw [hh]; rfl) hr, hh, hstepRow_eq]
  simp [exec, execHDisAbd, hh, State.chAbdDisable, State.log, State.setHState]

theorem step_txConf (hh : s.hsm.state = .txConf) : step s = .next { s with
    hsm := { s.hsm with state := .rxEcho }, resValid := false, trace := s.trace ++ [.tx s.ctl.confirm] } := by
  rw [step_active s hf (by rw [hh]; rfl) hr, hh, hstepRow_eq]
  simp [exec, execHTxConf, hh, State.sendConfirm, State.chWrite, State.log, State.setHState]

theorem step_rtyTx (hh : s.hsm.state = .rtyTx) : step s = .next { s with
    hsm := { s.hsm with state := .rtyRx }, resValid := false, trace := s.trace ++ [.tx s.ctl.confirm] } := by
  rw [step_active s hf (by rw [hh]; rfl) hr, hh, hstepRow_eq]
  simp [exec, execHRtyTx, hh, State.sendConfirm, State.chWrite, State.log, State.setHState]

/-- A first reply that is none of the three bytes the block knows (R145, R148): the restart. -/
theorem step_rxEcho_other (hh : s.hsm.state = .rxEcho) (r : Byte) (hb : s.rxAnswer 0 = some r) (hc : r ≠ s.ctl.confirm)
    (h1 : r ≠ s.ctl.fail) (h2 : r ≠ s.ctl.rawlock) : step s = .next { s.rxTake with
      hsm := { s.hsm with echo := r, echoV := true, state := .initClr }, resValid := false,
      trace := s.trace ++ [.rx r, .handshakeFailure] } := by
  rw [step_active s hf (by rw [hh]; rfl) hr, hh, hstepRow_eq]
  simp only [exec, execHRxEcho, hh, if_true]
  rw [State.onRead_of_byte _ _ r (by exact hb)]
  simp [State.rxEchoByte, classify, hc, h1, h2, State.log, State.storeEcho, State.rxTake]

/-- A reply that is not the confirm byte, in the retry loop (R147). -/
theorem step_rtyRx_other (hh : s.hsm.state = .rtyRx) (r : Byte) (hb : s.rxAnswer 0 = some r) (hc : r ≠ s.ctl.confirm) :
    step s = .next { s.rxTake with
      hsm := { s.hsm with echo := r, echoV := true, state := .rtyTx }, resValid := false,
      trace := s.trace ++ [.rx r] } := by
  rw [step_active s hf (by rw [hh]; rfl) hr, hh, hstepRow_eq]
  simp only [exec, execHRtyRx, hh, if_true]
  rw [State.onRead_of_byte _ _ r (by exact hb)]
  simp [State.rtyRxByte, hc, State.log, State.storeEcho, State.rxTake]

/-- The initiate loop (R139 to R142): with no overflow and auto-baud not done, three steps come back to `H_TX_INIT`. -/
theorem initiate_round (hh : s.hsm.state = .txInit) (o a : List Bool) (ho : s.ovf = false :: o) (ha : s.abd = false :: a) :
    ∃ t, Host.Core.run core 3 s = .next t ∧ t = { s with
      ovf := o, abd := a, resValid := false, trace := s.trace ++ [.tx s.ctl.init, .ovf false, .abd false] } := by
  refine ⟨_, (run_next 2 _ _ (step_txInit s hf hr hh)).trans <|
    (run_next 1 _ _ (step_chkOvf _ (by exact hf) (by exact hr) (by rfl) false o (by exact ho))).trans <|
    run_next 0 _ _ (step_chkAbd _ (by exact hf) (by exact hr) (by rfl) false a (by exact ha)), ?_⟩
  simp [← hh]; rfl

/-- The confirm retry loop (R146, R147): a reply that is not the confirm byte comes back to `H_RTY_TX`. -/
theorem retry_round (hh : s.hsm.state = .rtyTx) (r : Byte) (hb : s.rxAnswer 0 = some r) (hc : r ≠ s.ctl.confirm) :
    ∃ t, Host.Core.run core 2 s = .next t ∧ t = { s.rxTake with
      hsm := { s.hsm with echo := r, echoV := true }, resValid := false,
      trace := s.trace ++ [.tx s.ctl.confirm, .rx r] } := by
  refine ⟨_, (run_next 1 _ _ (step_rtyTx s hf hr hh)).trans <|
    run_next 0 _ _ (step_rtyRx_other _ (by exact hf) (by exact hr) (by rfl) r (by exact hb) hc), ?_⟩
  simp only [← hh, State.rxTake, List.append_assoc]; rfl

/-- The restart loop (R145, R137 to R144): a first reply the block does not know, auto-baud then done at the first poll, comes
back to `H_RX_ECHO`. -/
theorem restart_round (hh : s.hsm.state = .rxEcho) (r : Byte) (o a : List Bool) (hb : s.rxAnswer 0 = some r)
    (hc : r ≠ s.ctl.confirm) (h1 : r ≠ s.ctl.fail) (h2 : r ≠ s.ctl.rawlock) (ho : s.ovf = false :: o) (ha : s.abd = true :: a) :
    ∃ t, Host.Core.run core 8 s = .next t ∧ t = { s.rxTake with
      hsm := { s.hsm with echo := r, echoV := true, abdEn := false }, ovf := o, abd := a, resValid := false,
      trace := s.trace ++ [.rx r, .handshakeFailure, .abdClr, .abdEn, .tx s.ctl.init, .ovf false, .abd true, .abdDis,
                           .tx s.ctl.confirm] } := by
  refine ⟨_, (run_next 7 _ _ (step_rxEcho_other s hf hr hh r hb hc h1 h2)).trans <|
    (run_next 6 _ _ (step_initClr _ (by exact hf) (by exact hr) (by rfl))).trans <|
    (run_next 5 _ _ (step_initEn _ (by exact hf) (by exact hr) (by rfl))).trans <|
    (run_next 4 _ _ (step_txInit _ (by exact hf) (by exact hr) (by rfl))).trans <|
    (run_next 3 _ _ (step_chkOvf _ (by exact hf) (by exact hr) (by rfl) false o (by exact ho))).trans <|
    (run_next 2 _ _ (step_chkAbd _ (by exact hf) (by exact hr) (by rfl) true a (by exact ha))).trans <|
    (run_next 1 _ _ (step_disAbd _ (by exact hf) (by exact hr) (by rfl))).trans <|
    run_next 0 _ _ (step_txConf _ (by exact hf) (by exact hr) (by rfl)), ?_⟩
  simp only [← hh, State.rxTake, List.append_assoc]; rfl
end

end Sys2Proof.Machine
end

