-- ==== Sys2Proof/Tests/Slice0.lean ====
section
/-! SUPPORT. Small tests: well-formedness, decoding of words written out from the spec's tables, one step per row with expected
values from 95_test_vectors.md, and a witness for the hypotheses of each obligation. -/

open Sys2Proof Sys2Proof.Machine Host

namespace Sys2Proof.Tests

/-- The reference parameter set of R6. -/
def ref : CtrlBytes := { init := 0x41#8, confirm := 0x43#8, fail := 0x46#8, rawlock := 0x61#8 }

/-- The reset state with the reference control bytes. -/
def base : State := { State.reset with ctl := ref }

/-- The framer at `f`. -/
def atF (f : FState) : State := base.setFState f

/-- The handshake at `h`, `LOCKED` and `ABD_EN` as R30 (b) and R23 have them. -/
def atH (h : HState) : State :=
  { base with hsm := { base.hsm with state := h, locked := h == .locked, abdEn := h.detecting } }

/-- The framer in the body of a frame with the fields `p`, `t`, `b`, at index `i`, with the cause `m`. -/
def inBody (p t b i : Half) (m : Malf) : State :=
  { base with frm := { base.frm with pktNBytes := p, pktType := t, bufNBytes := b, idx := i, malf := m, state := .body } }

/-- A read just started (R91). -/
def started : State := atF .len0

/-- The bytes the channel has. -/
def withRx (bytes : List Byte) (s : State) : State := { s with rx := bytes.map some }

/-- No byte at the next attempt. -/
def silent (s : State) : State := { s with rx := [none] }

/-- A payload in `PAY`, with its length in `PAYLEN`. -/
def withPay (bytes : List Byte) (s : State) : State :=
  { s with frm := { s.frm with
      pay := (bytes.zipIdx.foldl (fun m x => Memory.write m x.2 x.1) []), payLen := BitVec.ofNat 6 bytes.length } }

/-- Input ports that offer nothing. -/
def ports : PortInputs where
  rst := false
  cmdValid := false
  cmdOp := 0#2
  cmdData := 0#8
  rxValid := false
  rxData := 0#8
  txReady := false
  rxOvf := false
  abdDone := false

/-- The next state, where there is one. -/
def out : Outcome → Option State
  | .next s => some s
  | .fault _ => none
  | .refused _ => none

/-- One field of the next state. -/
def field {α : Type} (f : State → α) (o : Outcome) : Option α := (out o).map f

end Sys2Proof.Tests

open Sys2Proof.Tests

/-! ### Well-formedness -/

theorem test_wf_frame_length : Instr.wf ref (.frame 0x0002#16 [0x00#8]) = false := by decide
theorem test_wf_frame_ok : Instr.wf ref (.frame 0x0001#16 [0xAB#8]) = true := by decide
theorem test_wf_unknown_type_is_not_defined : Instr.wf ref (.ptUnknown 0x000C#16) = false := by decide
theorem test_wf_control_bytes_differ :
    Instr.wf { init := 0x41#8, confirm := 0x41#8, fail := 0x46#8, rawlock := 0x61#8 } .ctlInit = false := by decide
theorem test_wf_other_is_not_named : Instr.wf ref (.ctlOther 0x61#8) = false := by decide
theorem test_wf_other_ok : Instr.wf ref (.ctlOther 0x42#8) = true := by decide

/-! ### Decoding of words written out from 30_encoding.md (R61 to R69) and 10_state.md (R19, R20) -/

theorem test_decode_cmd :
    decodeCmd 0b0010100101#10 = .csClr 0xA5#8 ∧ decodeCmd 0b0110000000#10 = .csAdd 0x80#8 ∧
    decodeCmd 0b1000000000#10 = .rdFrame 0x00#8 ∧ decodeCmd 0b1100000001#10 = .hsStart 0x01#8 := by decide

theorem test_decode_cmd_bytes :
    decode ref .cmd [0b00000011#8, 0b11111111#8, 0x77#8] = .ok (.hsStart 0xFF#8) [0x77#8] ∧
    decode ref .cmd [0b00000100#8, 0x00#8] = .reject .highBits ∧ decode ref .cmd [0x01#8] = .reject .truncated := by decide

/-- F17's frame: three bytes, `P = 1`. -/
theorem test_decode_frame :
    decode ref .frame [0b00000000#8, 0b00000001#8, 0b10101011#8, 0x99#8] = .ok (.frame 0x0001#16 [0xAB#8]) [0x99#8] ∧
    decode ref .frame [0x00#8, 0x02#8, 0xAB#8] = .reject .truncated := by decide

theorem test_decode_ptype :
    decodePType 0b0000000000000001#16 = .ptAttQ7 ∧ decodePType 0b0000000000000010#16 = .ptAttF32 ∧
    decodePType 0b0000000000001011#16 = .ptDbgU16 ∧ decodePType 0b0000000000001100#16 = .ptDbgF32 ∧
    decodePType 0b0000000100000001#16 = .ptUnknown 0x0101#16 ∧
    decode ref .ptype [0b00000000#8, 0b00001011#8] = .ok .ptDbgU16 [] := by decide

theorem test_decode_ctrl :
    decodeCtrl ref 0b01000001#8 = .ctlInit ∧ decodeCtrl ref 0b01000011#8 = .ctlConfirm ∧
    decodeCtrl ref 0b01000110#8 = .ctlFail ∧ decodeCtrl ref 0b01100001#8 = .ctlRawlock ∧
    decodeCtrl ref 0b01000010#8 = .ctlOther 0x42#8 := by decide

theorem test_decode_hstep_low :
    decodeHStep 0b0000#4 = some .hIdle ∧ decodeHStep 0b0001#4 = some .hInitClr ∧ decodeHStep 0b0010#4 = some .hInitEn ∧
    decodeHStep 0b0011#4 = some .hTxInit ∧ decodeHStep 0b0100#4 = some .hChkOvf ∧ decodeHStep 0b0101#4 = some .hFlush ∧
    decodeHStep 0b0110#4 = some .hChkAbd ∧ decodeHStep 0b0111#4 = some .hDisAbd := by decide

theorem test_decode_hstep_high :
    decodeHStep 0b1000#4 = some .hTxConf ∧ decodeHStep 0b1001#4 = some .hRxEcho ∧ decodeHStep 0b1010#4 = some .hRtyTx ∧
    decodeHStep 0b1011#4 = some .hRtyRx ∧ decodeHStep 0b1100#4 = some .hLocked ∧ decodeHStep 0b1101#4 = none ∧
    decodeHStep 0b1111#4 = none := by decide

theorem test_decode_fstep :
    decodeFStep 0b00#2 = .fIdle ∧ decodeFStep 0b01#2 = .fLen0 ∧ decodeFStep 0b10#2 = .fLen1 ∧
    decodeFStep 0b11#2 = .fBody ∧ decode ref .fstep [0b00000100#8] = .reject .highBits := by decide

theorem test_decode_res_low :
    decodeRes 0b0000#4 = some .resNone ∧ decodeRes 0b0001#4 = some .resFrameOk ∧
    decodeRes 0b0010#4 = some .resFrameUnknown ∧ decodeRes 0b0011#4 = some .resCsumMismatch ∧
    decodeRes 0b0100#4 = some .resMalformed ∧ decodeRes 0b0101#4 = some .resDecodeLen := by decide

theorem test_decode_res_high :
    decodeRes 0b0110#4 = some .resHsLocked ∧ decodeRes 0b0111#4 = some .resRejected ∧
    decodeRes 0b1000#4 = some .resCsDone ∧ decodeRes 0b1001#4 = some .resRsvdTimeout ∧
    decodeRes 0b1010#4 = some .resRsvdBudget ∧ decode ref .res [0b00001011#8] = .reject .unassigned := by decide

theorem test_decode_mf :
    decodeMf 0b000#3 = some .mfNone ∧ decodeMf 0b001#3 = some .mfHdrTrunc ∧ decodeMf 0b010#3 = some .mfCapacity ∧
    decodeMf 0b011#3 = some .mfOverrun ∧ decodeMf 0b100#3 = some .mfSlack ∧ decodeMf 0b101#3 = none := by decide

/-- The three hex digits of 95_test_vectors.md section 1: 000, 100 + b, 200, 300, and the other spaces of the table's
numbering. -/
theorem test_decode_table_word :
    decodeTableWord 16 0x000 = some (.csClr 0x00#8) ∧ decodeTableWord 16 0x17F = some (.csAdd 0x7F#8) ∧
    decodeTableWord 16 0x200 = some (.rdFrame 0x00#8) ∧ decodeTableWord 16 0x300 = some (.hsStart 0x00#8) ∧
    decodeTableWord 16 0x000B = some .ptDbgU16 ∧ decodeTableWord 16 0x0400 = some (.ptUnknown 0x0400#16) ∧
    decodeTableWord 8 0x0C = some .hLocked := by decide

/-- The encoder against bytes written out: `CS_ADD 0x80` is 180, and F17's frame. -/
theorem test_encode :
    encode ref (.csAdd 0x80#8) = [0x01#8, 0x80#8] ∧ encode ref (.frame 0x0001#16 [0xAB#8]) = [0x00#8, 0x01#8, 0xAB#8] ∧
    encode ref (.ptUnknown 0x0101#16) = [0x01#8, 0x01#8] ∧ encode ref .ctlConfirm = [0x43#8] := by decide

/-! ### Memory and operands -/

theorem test_reset_memory_is_canonical : Memory.wf State.reset.frm.pay = true := by decide

/-- Writing zero removes a cell, so equal contents are equal lists. -/
theorem test_memory_canonical :
    Memory.write (Memory.write [] 3 0x05#8) 3 0x00#8 = [] ∧
    Memory.write (Memory.write [] 3 0x05#8) 1 0x07#8 = Memory.write (Memory.write [] 1 0x07#8) 3 0x05#8 ∧
    Memory.wf [(3, 0x05#8), (1, 0x07#8)] = false ∧ Memory.wf [(50, 0x05#8)] = false := by decide

/-- 95_test_vectors.md section 3.2: V-CS2, V-CS4, V-CS5, V-CS9. -/
theorem test_checksum :
    checksum [0x00#8, 0x80#8, 0x01#8, 0x00#8, 0xFF#8, 0x80#8] = 0x00#8 ∧ checksum [0x80#8, 0x80#8] = 0x00#8 ∧
    checksum [0x03#8, 0x01#8, 0x02#8] = 0x06#8 ∧ checksum [0x40#8, 0x49#8, 0x0F#8, 0xDB#8] = 0x73#8 := by decide

/-- 95_test_vectors.md section 3.3, `Q7toF32`. -/
theorem test_q7 :
    q7ToF32 0x0000#16 = 0x00000000#32 ∧ q7ToF32 0x0001#16 = 0x3C000000#32 ∧ q7ToF32 0xFFFF#16 = 0xBC000000#32 ∧
    q7ToF32 0xA600#16 = 0xC3340000#32 ∧ q7ToF32 0x7FFF#16 = 0x437FFE00#32 ∧ q7ToF32 0x8000#16 = 0xC3800000#32 := by decide

/-- 95_test_vectors.md section 3.3, `F32fromWire`, and S3. -/
theorem test_f32 :
    f32FromWire 0x40#8 0x49#8 0x0F#8 0xDB#8 = 0x40490FDB#32 ∧ f32FromWire 0x7F#8 0xC0#8 0x12#8 0x34#8 = 0x7FC01234#32 ∧
    wordSwap 0x40#8 0x49#8 0x0F#8 0xDB#8 = (0xDB#8, 0x0F#8, 0x49#8, 0x40#8) := by decide

/-- R95's examples, and F25 (`B + 5` = 65540 must not wrap). -/
theorem test_validate :
    validate 11#16 6#16 = none ∧ validate 56#16 51#16 = some .capacity ∧ validate 8#16 6#16 = some .overrun ∧
    validate 13#16 6#16 = some .slack ∧ validate 4#16 0#16 = some .overrun ∧
    validate 5#16 0xFFFF#16 = some .capacity := by decide

/-! ### One step of each row; expected values from 95_test_vectors.md -/

/-- V-C4. -/
theorem test_cs_clr :
    field (fun t => (t.cse.acc, t.lastRes, t.trace)) (exec (.csClr 0xFF#8) { base with cse := { acc := 0x7F#8, cnt := 3#16 } }) =
      some (0x00#8, .csDone, [.csClr, .result .csDone]) := by decide

/-- V-C3. -/
theorem test_cs_add_wraps :
    field (fun t => (t.cse, t.lastRes)) (exec (.csAdd 0x80#8) { base with cse := { acc := 0x80#8, cnt := 3#16 } }) =
      some ({ acc := 0x00#8, cnt := 3#16 }, .csDone) := by decide

/-- V-C5. -/
theorem test_rd_frame :
    field (fun t => (t.cse.acc, t.frm.state, t.busy)) (exec (.rdFrame 0xFF#8) { base with cse := { acc := 0x7F#8, cnt := 0#16 } }) =
      some (0x00#8, .len0, true) := by decide

/-- V-C6. -/
theorem test_hs_start_rejected :
    field (fun t => (t.lastRes.code, t.hsm.locked, t.trace)) (exec (.hsStart 0x00#8) (atH .locked)) =
      some (0x7#4, true, [.hsStart, .result .rejected]) := by decide

/-- The first event of every H vector. -/
theorem test_hs_start :
    field (fun t => (t.hsm.state, t.busy)) (exec (.hsStart 0x00#8) base) = some (.initClr, true) := by decide

/-- V-C7, V-C8: not accepted. -/
theorem test_command_waits :
    exec (.rdFrame 0x00#8) (atH .rxEcho) = .next (atH .rxEcho) ∧ (hostOutputs 0#6 (atH .rxEcho)).cmdReady = false :=
  ⟨rfl, by decide⟩

/-- F9. -/
theorem test_frame_unknown :
    field (fun t => (t.lastRes, t.smp.dbgU16, t.frm.pktNBytes, t.frm.pktType))
      (exec (.frame 0x0005#16 [0x00#8, 0x63#8, 0x00#8, 0x00#8, 0x00#8]) started) =
      some (.frameUnknown, 0x00AA#16, 0x0005#16, 0x0063#16) := by decide

/-- F23: two slack bytes. -/
theorem test_frame_malformed :
    field (fun t => (t.lastRes, t.frm.malf.code, t.frm.payLen, t.frm.rxCsum, t.smp))
      (exec (.frame 0x000D#16 [0x00#8, 0x01#8, 0x00#8, 0x06#8, 0x00#8, 0x80#8, 0x01#8, 0x00#8, 0xFF#8, 0x80#8, 0x00#8, 0xEE#8,
        0xEE#8]) started) = some (.malformed, 4#3, 0#6, 0x00#8, State.reset.smp) := by decide

/-- F1's payload. -/
theorem test_pt_att_q7 :
    field (fun t => (t.lastRes, t.smp.roll, t.smp.pitch, t.smp.yaw))
      (exec .ptAttQ7 (withPay [0x00#8, 0x80#8, 0x01#8, 0x00#8, 0xFF#8, 0x80#8] base)) =
      some (.frameOk, 0x3F800000#32, 0x40000000#32, 0xBF800000#32) := by decide

/-- F12's length: nothing decoded. -/
theorem test_pt_att_q7_length :
    field (fun t => (t.lastRes, t.smp)) (exec .ptAttQ7 (withPay [0x00#8, 0x80#8, 0x01#8, 0x00#8] base)) =
      some (.decodeLen, State.reset.smp) := by decide

/-- F4's payload. -/
theorem test_pt_att_f32 :
    field (fun t => (t.smp.roll, t.smp.pitch, t.smp.yaw))
      (exec .ptAttF32 (withPay [0x40#8, 0x49#8, 0x0F#8, 0xDB#8, 0xC0#8, 0x20#8, 0x00#8, 0x00#8, 0x3A#8, 0x83#8, 0x12#8, 0x6F#8]
        base)) = some (0x40490FDB#32, 0xC0200000#32, 0x3A83126F#32) := by decide

/-- F5's payload. -/
theorem test_pt_dbg_u16 :
    field (fun t => (t.lastRes, t.smp.dbgU16, t.smp.dbgInt)) (exec .ptDbgU16 (withPay [0x12#8, 0x34#8] base)) =
      some (.frameOk, 0x1234#16, 0#16) := by decide

/-- F8's payload, a NaN kept bit for bit. -/
theorem test_pt_dbg_f32 :
    field (fun t => (t.smp.dbgF32, t.smp.roll)) (exec .ptDbgF32 (withPay [0x7F#8, 0xC0#8, 0x12#8, 0x34#8] base)) =
      some (0x7FC01234#32, 0#32) := by decide

/-- F10's type and length. -/
theorem test_pt_unknown :
    field (fun t => (t.lastRes, t.smp)) (exec (.ptUnknown 0x0063#16) (withPay [0x01#8, 0x02#8, 0x03#8] base)) =
      some (.frameUnknown, { State.reset.smp with dbgU16 := 0x00AA#16 }) := by decide

/-- H6: the initiate byte, received, restarts; H1: sent in `H_TX_INIT`. -/
theorem test_ctl_init :
    field (fun t => (t.hsm.state, t.hsm.echo)) (exec .ctlInit (atH .rxEcho)) = some (.initClr, 0x41#8) ∧
    field (fun t => t.trace) (exec .ctlInit (atH .txInit)) = some [.tx 0x41#8] := by decide

/-- H1: received, it locks; H2: sent again in the retry loop. -/
theorem test_ctl_confirm :
    field (fun t => (t.hsm.locked, t.lastRes)) (exec .ctlConfirm (atH .rxEcho)) = some (true, .hsLocked) ∧
    field (fun t => (t.hsm.state, t.trace)) (exec .ctlConfirm (atH .rtyTx)) = some (.rtyRx, [.tx 0x43#8]) := by decide

/-- H3. -/
theorem test_ctl_fail : field (fun t => (t.hsm.state, t.hsm.echo)) (exec .ctlFail (atH .rxEcho)) = some (.rtyTx, 0x46#8) := by decide

/-- H2. -/
theorem test_ctl_rawlock :
    field (fun t => (t.hsm.state, t.hsm.echo)) (exec .ctlRawlock (atH .rxEcho)) = some (.rtyTx, 0x61#8) := by decide

/-- H5 in the first reply, H8 in the retry loop. -/
theorem test_ctl_other :
    field (fun t => (t.hsm.state, t.trace)) (exec (.ctlOther 0x55#8) (atH .rxEcho)) = some (.initClr, [.handshakeFailure]) ∧
    field (fun t => (t.hsm.state, t.trace)) (exec (.ctlOther 0x99#8) (atH .rtyRx)) = some (.rtyTx, []) := by decide

theorem test_h_idle :
    field (fun t => (t.hsm.state, t.cmds)) (exec .hIdle { base with cmds := [0x300#10, 0x200#10] }) =
      some (.initClr, [0x200#10]) := by decide

theorem test_h_init_clr : field (fun t => (t.hsm.state, t.trace)) (exec .hInitClr (atH .initClr)) = some (.initEn, [.abdClr]) := by
  decide

theorem test_h_init_en :
    field (fun t => (t.hsm.state, t.hsm.abdEn, t.trace)) (exec .hInitEn (atH .initEn)) = some (.txInit, true, [.abdEn]) := by decide

theorem test_h_tx_init :
    field (fun t => (t.hsm.state, t.trace)) (exec .hTxInit (atH .txInit)) = some (.chkOvf, [.tx 0x41#8]) := by decide

/-- H5, H1. -/
theorem test_h_chk_ovf :
    field (fun t => (t.hsm.state, t.trace)) (exec .hChkOvf { atH .chkOvf with ovf := [true, false] }) = some (.flush, [.ovf true]) ∧
    field (fun t => (t.hsm.state, t.ovf)) (exec .hChkOvf { atH .chkOvf with ovf := [false, true] }) = some (.chkAbd, [true]) := by
  decide

theorem test_h_flush : field (fun t => (t.hsm.state, t.trace)) (exec .hFlush (atH .flush)) = some (.txInit, [.flush]) := by decide

/-- H4, H1. -/
theorem test_h_chk_abd :
    field (fun t => t.hsm.state) (exec .hChkAbd { atH .chkAbd with abd := [false] }) = some .txInit ∧
    field (fun t => t.hsm.state) (exec .hChkAbd { atH .chkAbd with abd := [true] }) = some .disAbd := by decide

theorem test_h_dis_abd :
    field (fun t => (t.hsm.state, t.hsm.abdEn, t.trace)) (exec .hDisAbd (atH .disAbd)) = some (.txConf, false, [.abdDis]) := by decide

theorem test_h_tx_conf :
    field (fun t => (t.hsm.state, t.trace)) (exec .hTxConf (atH .txConf)) = some (.rxEcho, [.tx 0x43#8]) := by decide

/-- H5 after `rx=55`; H9: stuck. -/
theorem test_h_rx_echo :
    field (fun t => (t.hsm.state, t.hsm.echo, t.hsm.echoV, t.trace)) (exec .hRxEcho (withRx [0x55#8, 0x43#8] (atH .rxEcho))) =
      some (.initClr, 0x55#8, true, [.rx 0x55#8, .handshakeFailure]) ∧
    exec .hRxEcho (silent (atH .rxEcho)) = .next (atH .rxEcho) := ⟨by decide, rfl⟩

/-- I7: past the end of the list the channel may go on; what it answers is free (R54). -/
theorem test_read_past_the_list :
    (atH .rxEcho).rxAnswer 0 = Config.freeRx 0 ∧ (withRx [0x55#8] (atH .rxEcho)).rxAnswer 2 = Config.freeRx 1 ∧
    (withRx [0x55#8] (atH .rxEcho)).rxTake.rxTake.rxAnswer 1 = Config.freeRx 2 := ⟨rfl, rfl, rfl⟩

theorem test_h_rty_tx : field (fun t => (t.hsm.state, t.trace)) (exec .hRtyTx (atH .rtyTx)) = some (.rtyRx, [.tx 0x43#8]) := by decide

/-- H4 (`rx=00` inside the retry loop), H2. -/
theorem test_h_rty_rx :
    field (fun t => (t.hsm.state, t.hsm.echo)) (exec .hRtyRx (withRx [0x00#8] (atH .rtyRx))) = some (.rtyTx, 0x00#8) ∧
    field (fun t => (t.hsm.state, t.hsm.echoV, t.trace)) (exec .hRtyRx (withRx [0x43#8] (atH .rtyRx))) =
      some (.locked, false, [.rx 0x43#8, .result .hsLocked]) := by decide

theorem test_h_locked :
    field (fun t => (t.hsm.state, t.lastRes)) (exec .hLocked { atH .locked with cmds := [0x300#10] }) =
      some (.locked, .rejected) := by decide

theorem test_f_idle :
    field (fun t => (t.frm.state, t.cmds)) (exec .fIdle { base with cmds := [0x200#10] }) = some (.len0, []) := by decide

/-- R92's example, with a byte that shows. -/
theorem test_f_len0 :
    field (fun t => (t.frm.state, t.frm.pktNBytes)) (exec .fLen0 (withRx [0x12#8] started)) = some (.len1, 0x1200#16) := by decide

/-- R93's example; F16. -/
theorem test_f_len1 :
    field (fun t => (t.frm.state, t.frm.pktNBytes, t.frm.idx)) (exec .fLen1 (withRx [0x0B#8] (atF .len1))) =
      some (.body, 0x000B#16, 0#16) ∧
    field (fun t => (t.frm.state, t.lastRes, t.frm.malf)) (exec .fLen1 (withRx [0x00#8] (atF .len1))) =
      some (.idle, .malformed, .hdrTrunc) := by decide

/-- The walk of F1: `rx=06` at i = 3, `rx=80` at i = 5. -/
theorem test_f_body_header_and_payload :
    field (fun t => (t.frm.bufNBytes, t.frm.malf, t.frm.idx)) (exec .fBody (withRx [0x06#8] (inBody 0x000B#16 1#16 0#16 3#16 .none))) =
      some (0x0006#16, .none, 4#16) ∧
    field (fun t => (t.frm.pay, t.frm.payLen, t.cse.acc)) (exec .fBody (withRx [0x80#8] (inBody 0x000B#16 1#16 6#16 5#16 .none))) =
      some ([(1, 0x80#8)], 2#6, 0x80#8) := by decide

/-- F3's last byte; F22's last byte. -/
theorem test_f_body_checksum_and_drain :
    field (fun t => (t.lastRes, t.frm.rxCsum, t.cse.cnt)) (exec .fBody (withRx [0x01#8] (inBody 0x000B#16 1#16 6#16 10#16 .none))) =
      some (.csumMismatch, 0x01#8, 1#16) ∧
    field (fun t => (t.lastRes, t.frm.rxCsum, t.cse.acc)) (exec .fBody (withRx [0x04#8] (inBody 0x0008#16 1#16 6#16 7#16 .overrun))) =
      some (.malformed, 0x00#8, 0x00#8) := by decide

/-- R68's codes. -/
theorem test_results :
    field (fun t => t.lastRes.code) (exec .resNone base) = some 0x0#4 ∧
    field (fun t => t.lastRes.code) (exec .resFrameOk base) = some 0x1#4 ∧
    field (fun t => t.lastRes.code) (exec .resFrameUnknown base) = some 0x2#4 ∧
    field (fun t => t.lastRes.code) (exec .resMalformed base) = some 0x4#4 ∧
    field (fun t => t.lastRes.code) (exec .resDecodeLen base) = some 0x5#4 ∧
    field (fun t => t.lastRes.code) (exec .resHsLocked base) = some 0x6#4 ∧
    field (fun t => t.lastRes.code) (exec .resRejected base) = some 0x7#4 ∧
    field (fun t => t.lastRes.code) (exec .resCsDone base) = some 0x8#4 := by decide

/-- R115's corner case. -/
theorem test_mismatch_saturates :
    field (fun t => (t.lastRes.code, t.cse.cnt)) (exec .resCsumMismatch { base with cse := { acc := 0#8, cnt := 0xFFFF#16 } }) =
      some (0x3#4, 0xFFFF#16) := by decide

/-- R168, R169. -/
theorem test_reserved_results_stop : out (exec .resRsvdTimeout base) = none ∧ out (exec .resRsvdBudget base) = none := by decide

/-- R69's codes. -/
theorem test_causes :
    field (fun t => t.frm.malf.code) (exec .mfNone base) = some 0#3 ∧
    field (fun t => t.frm.malf.code) (exec .mfHdrTrunc base) = some 1#3 ∧
    field (fun t => t.frm.malf.code) (exec .mfCapacity base) = some 2#3 ∧
    field (fun t => t.frm.malf.code) (exec .mfOverrun base) = some 3#3 ∧
    field (fun t => t.frm.malf.code) (exec .mfSlack base) = some 4#3 := by decide

/-- V-R2: reset in the middle of a read, a byte still in the channel. -/
theorem test_reset_step :
    field (fun t => (t.frm.state, t.busy, t.trace, t.rx))
      (step { withRx [0x05#8] (inBody 0x000B#16 1#16 6#16 7#16 .none) with rst := [true] }) =
      some (.idle, false, [], [some 0x05#8]) := by decide

/-- F10's masked reads. -/
theorem test_pay_data :
    (withPay [0x01#8, 0x02#8, 0x03#8] base).payData 2#6 = 0x03#8 ∧ (withPay [0x01#8, 0x02#8, 0x03#8] base).payData 3#6 = 0x00#8 ∧
    (withPay [0x01#8, 0x02#8, 0x03#8] base).payData 63#6 = 0x00#8 := by decide

/-- The table's `CS_ADD` word is the first instruction after reset. -/
theorem test_with_fetch_word :
    field (fun t => (t.cse.acc, t.lastRes)) (step (State.reset.withFetchWord 16 0x17F)) = some (0x7F#8, .csDone) := by decide

/-- R200: without `tx_ready` the port-level block waits. -/
theorem test_cycle_waits_for_tx_ready :
    field (fun t => t.hsm.state) (cycle ports (atH .txInit)) = some .txInit := by decide

/-! ### Witnesses: states and operands that meet the hypotheses of each obligation, at the boundary values of its clauses -/

theorem test_witness_ResetEndsAnyCommand :
    ({ inBody 0x000B#16 1#16 6#16 7#16 .none with rst := [true, false] } : State).rst.head? = some true := by decide

/-- The four commands: an idle block, and a locked one. -/
theorem test_witness_commands_accepted :
    base.busy = false ∧ base.hsm.state = .idle ∧ (atH .locked).busy = false ∧ (atH .locked).hsm.state = .locked := by decide

theorem test_witness_CommandsAreAcceptedIffNotBusy :
    base.busy = false ∧ ({ base with cmds := [0x200#10] } : State).cmds = 0x200#10 :: [] ∧ base.rst.head? ≠ some true ∧
    (atF .body).busy = true ∧ (atH .rxEcho).busy = true ∧ (out (step (silent (atH .rxEcho)))).isSome = true := by decide

/-- `F_LEN0`; `F_LEN1` with P = 0, P = 3 and P = 4. -/
theorem test_witness_LengthFieldIsAssembled :
    (withRx [0x00#8] started).rx = some 0x00#8 :: [] ∧ started.frm.state = .len0 ∧ (atF .len1).frm.state = .len1 ∧
    (atF .len1).frm.pktNBytes.extractLsb' 8 8 ++ 0x00#8 = (0#16 : Half) ∧
    (atF .len1).frm.pktNBytes.extractLsb' 8 8 ++ 0x03#8 = (3#16 : Half) ∧
    (atF .len1).frm.pktNBytes.extractLsb' 8 8 ++ 0x04#8 = (4#16 : Half) := by decide

/-- i = 0, 1, 2 of a longer body; the last byte of P = 1, 2, 3. -/
theorem test_witness_FBodyCapturesTheHeader :
    (inBody 4#16 0#16 0#16 0#16 .none).frm.idx.toNat + 1 ≠ (inBody 4#16 0#16 0#16 0#16 .none).frm.pktNBytes.toNat ∧
    (inBody 4#16 0#16 0#16 2#16 .none).frm.idx.toNat + 1 ≠ (inBody 4#16 0#16 0#16 2#16 .none).frm.pktNBytes.toNat ∧
    (inBody 1#16 0#16 0#16 0#16 .hdrTrunc).frm.idx.toNat + 1 = (inBody 1#16 0#16 0#16 0#16 .hdrTrunc).frm.pktNBytes.toNat ∧
    (inBody 2#16 0#16 0#16 1#16 .hdrTrunc).frm.idx.toNat + 1 = (inBody 2#16 0#16 0#16 1#16 .hdrTrunc).frm.pktNBytes.toNat ∧
    (inBody 3#16 0#16 0#16 2#16 .hdrTrunc).frm.idx.toNat + 1 = (inBody 3#16 0#16 0#16 2#16 .hdrTrunc).frm.pktNBytes.toNat :=
  ⟨by decide, by decide, rfl, rfl, rfl⟩

/-- Each outcome of R95 at its boundary: B = 51, B = 50 with P = 54, 56 and 55, and P = 4. -/
theorem test_witness_FBodyValidatesTheHeader :
    (inBody 4#16 1#16 0#16 3#16 .none).frm.idx = 3#16 ∧ 4 ≤ (inBody 4#16 1#16 0#16 3#16 .none).frm.pktNBytes.toNat ∧
    (inBody 4#16 1#16 0#16 3#16 .none).frm.bufNBytes.extractLsb' 8 8 ++ 51#8 = (51#16 : Half) ∧
    (inBody 4#16 1#16 0#16 3#16 .none).frm.bufNBytes.extractLsb' 8 8 ++ 50#8 = (50#16 : Half) ∧
    50 < (51#16 : Half).toNat ∧ ¬ 50 < (50#16 : Half).toNat ∧ (54#16 : Half).toNat < (50#16 : Half).toNat + 5 ∧
    (50#16 : Half).toNat + 5 < (56#16 : Half).toNat ∧ (55#16 : Half).toNat = (50#16 : Half).toNat + 5 := by decide

/-- The first payload byte of B = 1 and the last of B = 50. -/
theorem test_witness_FBodyStoresAndSumsPayload :
    ((6#16 : Half).toNat = (1#16 : Half).toNat + 5 ∧ 4 ≤ (4#16 : Half).toNat ∧ (4#16 : Half).toNat < 4 + (1#16 : Half).toNat) ∧
    ((50#16 : Half).toNat ≤ 50 ∧ (55#16 : Half).toNat = (50#16 : Half).toNat + 5 ∧ (53#16 : Half).toNat < 4 + (50#16 : Half).toNat) ∧
    (inBody 55#16 1#16 50#16 53#16 .none).frm.malf = .none ∧ Memory.wf (inBody 55#16 1#16 50#16 53#16 .none).frm.pay = true := by
  decide

/-- B = 0 and B = 50; a wrong and a right checksum byte. -/
theorem test_witness_ChecksumByteDecidesTheFrame :
    (5#16 : Half).toNat = (0#16 : Half).toNat + 5 ∧ (4#16 : Half).toNat = 4 + (0#16 : Half).toNat ∧
    (55#16 : Half).toNat = (50#16 : Half).toNat + 5 ∧ (54#16 : Half).toNat = 4 + (50#16 : Half).toNat ∧
    (inBody 55#16 1#16 50#16 54#16 .none).frm.state = .body ∧
    (inBody 55#16 1#16 50#16 54#16 .none).cse.acc ≠ 0x01#8 ∧ (inBody 55#16 1#16 50#16 54#16 .none).cse.acc = 0x00#8 := by decide

/-- The first drained byte of a longer frame, and the last one of the longest frame. -/
theorem test_witness_FBodyDrainsMalformedFrames :
    (inBody 6#16 1#16 0#16 4#16 .slack).frm.malf ≠ .none ∧ (4#16 : Half).toNat + 1 ≠ (6#16 : Half).toNat ∧
    (inBody 65535#16 1#16 0#16 65534#16 .slack).frm.idx.toNat + 1 =
      (inBody 65535#16 1#16 0#16 65534#16 .slack).frm.pktNBytes.toNat := ⟨by decide, by decide, rfl⟩

theorem test_witness_BlockingReadsWait :
    (silent started).stuck = true ∧ ({ atH .rtyRx with rx := [none, some 0x43#8] } : State).stuck = true ∧
    (silent started).rst.head? ≠ some true ∧ started.waitsRx = true ∧ started.rst = [] ∧
    (∀ k < 1, (silent started).rxAnswer k = none) ∧
    ∀ k < 3, ({ atH .rtyRx with rx := [none, none, none] } : State).rxAnswer k = none := by decide

theorem test_witness_started : started.readStarted := ⟨rfl, rfl⟩

/-- A payload of 0 and of 50 bytes, with a right and a wrong checksum byte. -/
theorem test_witness_WellFormedFrameIsSplit :
    Memory.wf started.frm.pay = true ∧ ([] : List Byte).length ≤ 50 ∧ (5#16 : Half) = BitVec.ofNat 16 (0 + 5) ∧
    (List.replicate 50 0xFF#8).length ≤ 50 ∧ (55#16 : Half) = BitVec.ofNat 16 ((List.replicate 50 0xFF#8).length + 5) ∧
    checksum [] ≠ 0x01#8 ∧ checksum (List.replicate 50 0xFF#8) = 0xCE#8 := by decide

/-- P = 0, P = 3, P = 4 with B = 0, and F22; then the boundaries of R95: B = 51 with P = B + 5 (capacity), and B = 50 with P one
below (overrun) and one above (slack) its 55. -/
theorem test_witness_MalformedFrameStoresNothing :
    ([] : List Byte).length = (0#16 : Half).toNat ∧ ¬ (4 ≤ (0#16 : Half).toNat) ∧ ¬ (4 ≤ (3#16 : Half).toNat) ∧
    ¬ ((4#16 : Half).toNat = (0#16 : Half).toNat + 5) ∧
    [0x00#8, 0x01#8, 0x00#8, 0x06#8, 0x01#8, 0x02#8, 0x03#8, 0x04#8].length = (8#16 : Half).toNat ∧
    ¬ ((8#16 : Half).toNat = (6#16 : Half).toNat + 5) ∧
    (List.replicate 56 0x00#8).length = (56#16 : Half).toNat ∧ ¬ ((51#16 : Half).toNat ≤ 50) ∧
    (50#16 : Half).toNat ≤ 50 ∧ (List.replicate 54 0x00#8).length = (54#16 : Half).toNat ∧
    (54#16 : Half).toNat < (50#16 : Half).toNat + 5 ∧ (50#16 : Half).toNat + 5 < (56#16 : Half).toNat := by decide

theorem test_witness_StepsConsumeExactlyTheFrame :
    (withRx [0x00#8, 0x01#8, 0xAB#8, 0x07#8] started).rx =
      (hiByte 0x0001#16 :: loByte 0x0001#16 :: [0xAB#8]).map some ++ [some 0x07#8] ∧
    started.frm.state = .len0 ∧ started.rst = [] ∧ [0xAB#8].length = (0x0001#16 : Half).toNat := by decide

theorem test_witness_ChecksumLaws :
    [0x01#8, 0x02#8, 0x03#8].Perm [0x03#8, 0x01#8, 0x02#8] ∧ (0x00#8 : Byte) ≠ 0xFF#8 ∧ (List.replicate 50 0xFF#8).length ≤ 50 := by
  decide

theorem test_witness_HostDrivenSumIsTheChecksum : base.busy = false ∧ [0x12#8, 0x34#8].Perm [0x34#8, 0x12#8] := by decide

theorem test_witness_decode_lengths :
    (withPay (List.replicate 6 1#8) base).frm.payLen.toNat = 6 ∧ (withPay (List.replicate 12 1#8) base).frm.payLen.toNat = 12 ∧
    (withPay (List.replicate 4 1#8) base).frm.payLen.toNat = 4 ∧ (withPay (List.replicate 2 1#8) base).frm.payLen.toNat = 2 :=
  ⟨rfl, rfl, rfl, rfl⟩

theorem test_witness_UnknownTypeWritesTheSentinel :
    ((0#16 : Half) ≠ 1#16 ∧ (3#16 : Half) ≠ 2#16 ∧ (10#16 : Half) ≠ 11#16 ∧ (13#16 : Half) ≠ 12#16) ∧
    (0x0101#16 : Half) ≠ 1#16 ∧ (0x0101#16 : Half) ≠ 2#16 ∧ (0x0101#16 : Half) ≠ 11#16 ∧ (0x0101#16 : Half) ≠ 12#16 := by
  decide

/-- The lengths next to the required ones, and 0. -/
theorem test_witness_WrongPayloadLengthDecodesNothing :
    base.frm.payLen.toNat ≠ 6 ∧ base.frm.payLen.toNat ≠ 12 ∧ base.frm.payLen.toNat ≠ 2 ∧ base.frm.payLen.toNat ≠ 4 ∧
    (withPay (List.replicate 7 1#8) base).frm.payLen.toNat ≠ 6 ∧ (withPay (List.replicate 11 1#8) base).frm.payLen.toNat ≠ 12 ∧
    (withPay (List.replicate 3 1#8) base).frm.payLen.toNat ≠ 2 ∧ (withPay (List.replicate 5 1#8) base).frm.payLen.toNat ≠ 4 := by
  decide

/-- The last step of a type-11 frame changes the Sample; of a type-1 and a type-12 frame with a wrong length it does not. -/
theorem test_witness_SampleChangesOnlyWithAGoodFrame :
    field (fun t => (t.smp.dbgU16, t.frm.pktType))
      (step (withRx [0x00#8] (inBody 5#16 0x000D#16 0#16 4#16 .none))) = some (0x00AA#16, 0x000D#16) ∧
    field (fun t => (t.smp, t.frm.pktType)) (step (withRx [0x00#8] (inBody 5#16 1#16 0#16 4#16 .none))) =
      some (State.reset.smp, 1#16) ∧
    field (fun t => (t.smp, t.frm.pktType)) (step (withRx [0x00#8] (inBody 5#16 12#16 0#16 4#16 .none))) =
      some (State.reset.smp, 12#16) := by decide

theorem test_witness_RestingStatesWaitForTheHost :
    base.busy = false ∧ (atH .locked).busy = false ∧ (0b10#2 ++ 0xFF#8 : BitVec (2 + 8)) = 0x2FF#10 ∧
    (0b11#2 ++ 0x00#8 : BitVec (2 + 8)) = 0x300#10 ∧ base.cmds = [] := by decide

/-- One state for each step of the handshake that has a hypothesis on `H_STATE`. -/
theorem test_witness_handshake_states :
    ∀ h ∈ [HState.initClr, .initEn, .txInit, .chkOvf, .flush, .chkAbd, .disAbd, .txConf, .rxEcho, .rtyTx, .rtyRx],
      (atH h).hsm.state = h := by decide

theorem test_witness_HandshakePollsFollowTheAnswer :
    ({ atH .chkOvf with ovf := [true] } : State).ovf = true :: [] ∧ ({ atH .chkAbd with abd := [false] } : State).abd = false :: [] := by
  decide

/-- The three classes of a reply (R148). -/
theorem test_witness_replies :
    (withRx [0x43#8] (atH .rxEcho)).rx = some 0x43#8 :: [] ∧ (atH .rxEcho).ctl.confirm = 0x43#8 ∧
    (0x61#8 : Byte) ≠ (atH .rxEcho).ctl.confirm ∧ (0x61#8 : Byte) = (atH .rxEcho).ctl.rawlock ∧
    (0x55#8 : Byte) ≠ ref.confirm ∧ (0x55#8 : Byte) ≠ ref.fail ∧ (0x55#8 : Byte) ≠ ref.rawlock := by decide

theorem test_witness_ControlCharactersSentAndReceived : (atH .rxEcho).ctl.distinct = true ∧ ref.named 0x42#8 = false := by decide

theorem test_witness_HandshakeTransitionsAreTheTable :
    field (fun t => t.hsm.state) (step (atH .initClr)) = some .initEn ∧ (atH .initClr).rst.head? ≠ some true := by decide

theorem test_witness_LockedUntilReset :
    (out (step { atH .locked with cmds := [0x300#10] })).isSome = true ∧ (atH .locked).hsm.state = .locked := by decide

theorem test_witness_ShortestHandshakeTakesEightSteps :
    (atH .initClr).frm.state = .idle ∧ (atH .initClr).rst = [] ∧
    (withRx [0x43#8] { atH .initClr with ovf := [false], abd := [true] }).rx = some ref.confirm :: [] := by decide

/-- No further reply, and two that are not the confirm byte (H4). -/
theorem test_witness_RetryLoopSendsOneConfirmPerReply :
    (withRx [0x46#8, 0x43#8] (atH .txConf)).rx = ([0x46#8] : List Byte).map some ++ some ref.confirm :: [] ∧
    (0x46#8 : Byte) ≠ ref.confirm ∧ (0x46#8 : Byte) = ref.fail ∧ (∀ x ∈ [0x00#8, 0x61#8], x ≠ ref.confirm) ∧
    (atH .txConf).frm.state = .idle := by decide

/-- The second clause of the same statement, at n = 0 and at n = 2 (a fail byte, then two that are not the confirm byte). -/
theorem test_witness_RetryLoopGoesOn :
    (withRx [0x46#8] (atH .txConf)).rxAnswer 0 = some 0x46#8 ∧
    (∀ k ≤ 2, ∃ b ∈ [0x46#8, 0x00#8, 0x61#8], (withRx [0x46#8, 0x00#8, 0x61#8] (atH .txConf)).rxAnswer k = some b ∧
      b ≠ ref.confirm) ∧ (atH .txConf).rst = [] := by decide

/-- A completing step, the result event it adds, and a step that does not complete. -/
theorem test_witness_LastResChangesOnlyOnCompletion :
    field (fun t => t.resValid) (step { base with cmds := [0x000#10] }) = some true ∧
    field (fun t => decide (Event.result .csDone ∈ t.trace.drop base.trace.length)) (step { base with cmds := [0x000#10] }) =
      some true ∧
    field (fun t => t.resValid) (step (withRx [0x00#8] started)) = some false := by decide

/-- A mismatch at the largest count (R115's corner case), and another result. -/
theorem test_witness_MismatchCountSaturates :
    field (fun t => (t.resValid, t.lastRes, t.cse.cnt))
      (step (withRx [0x01#8] { inBody 5#16 1#16 0#16 4#16 .none with cse := { acc := 0#8, cnt := 0xFFFF#16 } })) =
      some (true, .csumMismatch, 0xFFFF#16) ∧
    field (fun t => t.lastRes) (step { base with cmds := [0x000#10] }) = some .csDone := by decide

/-- A legal state in the header of a frame with P = 3, flagged. -/
theorem test_witness_legal_flagged : Inv (inBody 3#16 0#16 0#16 1#16 .hdrTrunc) where
  payLenCap := by decide
  lockedIff := by decide
  disjoint := by decide
  bodyIdx := by decide
  bodyGood := fun h => by cases h
  readBad := by decide
  echoClear := by decide
  payWf := by decide
  lenStart := by decide
  headStart := by decide
  bodyRx := by decide
  dbgInt := by decide
  abdMirror := by decide
  noReserved := by decide

theorem test_witness_MalformedCauseIsSticky :
    field (fun t => (t.frm.malf, t.trace)) (step (withRx [0x00#8] (inBody 3#16 0#16 0#16 1#16 .hdrTrunc))) =
      some (.hdrTrunc, [.rx 0x00#8]) := by decide

/-- For the statements about every step: it answers from a legal state. -/
theorem test_witness_step_answers :
    (out (step (silent (inBody 3#16 0#16 0#16 1#16 .hdrTrunc)))).isSome = true ∧ (out (step (atH .initClr))).isSome = true ∧
    (inBody 3#16 0#16 0#16 1#16 .hdrTrunc).frm.state ≠ .idle ∧ (atH .initClr).hsm.state ≠ .txInit ∧
    (atH .initClr).hsm.state ≠ .chkOvf ∧ base.rst.head? ≠ some true := by decide

theorem test_witness_StepRunsTheSelectedRow :
    decodeHStep (atH .flush).hsm.state.code = some .hFlush ∧ (atH .flush).hsm.state ≠ .idle ∧ (atH .flush).hsm.state ≠ .locked ∧
    started.frm.state = .len0 ∧ (atF .len1).frm.state = .len1 ∧ (atF .body).frm.state = .body ∧ base.cmds = [] ∧
    ({ base with cmds := [0x300#10] } : State).cmds = 0x300#10 :: [] := by decide

/-- Index 53 of the last payload byte and an address it does not write; the checksum byte next to it (index 54) and a drained byte,
which write none; and a row that is neither `F_BODY` nor `FRAME`. -/
theorem test_witness_OnlyPayloadBytesWritePay :
    (out (step (withRx [0x01#8] (inBody 55#16 1#16 50#16 53#16 .none)))).isSome = true ∧
    ¬ (48 = (inBody 55#16 1#16 50#16 53#16 .none).frm.idx.toNat - 4) ∧
    (out (step (withRx [0x01#8] (inBody 55#16 1#16 50#16 54#16 .none)))).isSome = true ∧
    ¬ ((54#16 : Half).toNat < 4 + (50#16 : Half).toNat) ∧
    (out (step (withRx [0x01#8] (inBody 6#16 1#16 0#16 4#16 .slack)))).isSome = true ∧ Malf.slack ≠ .none ∧ Instr.fLen1 ≠ .fBody ∧
    (out (exec .fLen1 base)).isSome = true := by decide

theorem test_witness_HostReadPortIsMasked :
    (withPay [0x01#8, 0x02#8, 0x03#8] base).frm.payLen.toNat ≤ (3#6 : BitVec 6).toNat ∧
    (2#6 : BitVec 6).toNat < (withPay [0x01#8, 0x02#8, 0x03#8] base).frm.payLen.toNat := by decide

theorem test_witness_CyclesStutterUntilReady :
    started.waitsRx = true ∧ ports.rxValid = false ∧ (atH .txInit).waitsTx = true ∧ ports.txReady = false ∧
    base.busy = false ∧ ports.cmdValid = false ∧ ports.rst = false ∧ started.busy = true ∧
    (out (cycle ports started)).isSome = true := by decide

theorem test_witness_DecodeOfEncode : Instr.wf ref (.ctlOther 0x42#8) = true ∧ Instr.wf ref (.frame 0#16 []) = true := by decide

theorem test_witness_EncodeOfDecode :
    ref.distinct = true ∧ decode ref .ctrl [0x42#8, 0x00#8] = .ok (.ctlOther 0x42#8) [0x00#8] ∧
    decode ref .res [0x0A#8] = .ok .resRsvdBudget [] := by decide

/-- A completing step emits a result. -/
theorem test_witness_ReservedResultsAreNeverEmitted :
    field (fun t => t.trace.drop (List.length base.trace)) (step { base with cmds := [0x000#10] }) =
      some [.csClr, .result .csDone] := by decide

theorem test_host_outputs : (hostOutputs 0#6 (atH .locked)).locked = true ∧ (hostOutputs 0#6 base).lastRes = 0x0#4 := by decide
end

/-! The results of commands and the registers that keep them (10_state.md R24 to R26): what a step does to `LAST_RES`,
`CNT_CSUM` and `F_MALF`. -/

section
namespace Sys2Proof.Machine

/-! ### What a step emits (R25, R26, R85) -/

/-- How a step from `s` to `t` deals with results, the events `evs` being the ones it adds besides a result: either it emits
none, or it completes a command with the result `c`. `CNT_CSUM` counts one result only (R26). -/
inductive ResultEffect (s t : State) (evs : List Event) : Prop
  /-- no command completes -/
  | quiet (strobe : t.resValid = false) (lastRes : t.lastRes = s.lastRes) (cnt : t.cse.cnt = s.cse.cnt)
      (trace : t.trace = s.trace ++ evs)
  /-- a command completes with `c` -/
  | completes (c : ResCode) (strobe : t.resValid = true) (lastRes : t.lastRes = c)
      (cnt : c ≠ .csumMismatch ∧ t.cse.cnt = s.cse.cnt ∨ c = .csumMismatch ∧ t.cse.cnt = sat16Inc s.cse.cnt)
      (trace : t.trace = s.trace ++ evs ++ [.result c])

/-- Emitting a result other than `RES_CSUM_MISMATCH` completes a command. -/
theorem ResultEffect.of_emit {s u : State} {evs : List Event} {c : ResCode} (hc : c ≠ .csumMismatch)
    (cnt : u.cse.cnt = s.cse.cnt) (trace : u.trace = s.trace ++ evs) : ResultEffect s (u.emit c) evs :=
  .completes c rfl rfl (.inl ⟨hc, cnt⟩) (congrArg (· ++ [Event.result c]) trace)

/-- Completing a read completes the command that started it (R100). -/
theorem ResultEffect.of_complete {s u : State} {evs : List Event} (cnt : u.cse.cnt = s.cse.cnt)
    (trace : u.trace = s.trace ++ evs) : ResultEffect s u.complete evs := by
  obtain ⟨smp, n, c, e, -, -, -, -, -, -, -, hn⟩ := u.complete_spec
  rw [e]
  exact .completes c rfl rfl (cnt ▸ hn) (congrArg (· ++ [Event.result c]) trace)

/-- A received byte emits nothing of its own; a result comes from the completion of the read (R100). -/
theorem State.framerByte_resultEffect {b : Byte} {s t : State} (hs : s.frm.state ≠ .idle)
    (h : (s.beginStep.rxTake.log (.rx b)).framerByte b = .next t) : ResultEffect s t [.rx b] := by
  obtain ⟨f, a, ⟨rfl, -⟩ | ⟨rfl, -⟩, -⟩ := State.framerByte_next b _ t (by exact hs) h
  · exact .quiet rfl rfl rfl rfl
  · exact .of_complete rfl rfl

/-- Every step without reset emits at most one result, after its other events. -/
theorem step_resultEffect {s t : State} (h : step s = .next t) (hr : s.rst.head? ≠ some true) :
    ∃ evs, (∀ c, Event.result c ∉ evs) ∧ ResultEffect s t evs := by
  rcases step_next s t h hr with ⟨hf, rfl | ⟨b, -, hb⟩⟩ | ⟨-, ha, he⟩ | ⟨-, -, -, rfl⟩ |
    ⟨-, -, w, rest, u, -, rfl, rfl | ⟨b, rfl⟩ | rfl | ⟨-, rfl⟩ | ⟨-, rfl⟩⟩
  · exact ⟨[], by simp, .quiet rfl rfl rfl (by simp)⟩
  · exact ⟨[.rx b], by simp, State.framerByte_resultEffect hf hb⟩
  · obtain ⟨hs, rx, reads, ovf, abd, polls, evs, ⟨rfl, -⟩ | ⟨rfl, -⟩, hevs, -⟩ := exec_hstep s.beginStep t ha he
    · exact ⟨evs, hevs, .quiet rfl rfl rfl rfl⟩
    · exact ⟨evs, hevs, .completes .hsLocked rfl rfl (.inl ⟨by decide, rfl⟩) rfl⟩
  · exact ⟨[], by simp, .quiet rfl rfl rfl (by simp)⟩
  · exact ⟨[.csClr], by simp, .of_emit (by decide) rfl rfl⟩
  · exact ⟨[.csAdd b], by simp, .of_emit (by decide) rfl rfl⟩
  · exact ⟨[.rdFrame], by simp, .quiet rfl rfl rfl rfl⟩
  · exact ⟨[.hsStart], by simp, .quiet rfl rfl rfl rfl⟩
  · exact ⟨[.hsStart], by simp, .of_emit (by decide) rfl rfl⟩

/-- Settles O42: a step either emits nothing and keeps `LAST_RES`, or ends its events with the result in `LAST_RES`. -/
theorem lastResChangesOnlyOnCompletion : Obligations.LastResChangesOnlyOnCompletion := by
  intro s t h hr
  obtain ⟨evs, hevs, effect⟩ := step_resultEffect h hr
  cases effect with
  | quiet strobe lastRes cnt trace =>
    exact ⟨fun _ => lastRes, by simp [strobe], fun c hc => absurd (by simpa [trace] using hc) (hevs c)⟩
  | completes c strobe lastRes cnt trace =>
    refine ⟨by simp [strobe], fun _ => ⟨evs, by rw [trace, lastRes], hevs⟩, fun d hd => ?_⟩
    have hd : Event.result d ∈ evs ++ [.result c] := by simpa [trace] using hd
    have hdc : d = c := by simpa [hevs d] using hd
    exact ⟨strobe, lastRes.trans hdc.symm⟩

/-- `sat16_inc` on unbounded integers (R8). -/
theorem sat16Inc_toNat (v : Half) : (sat16Inc v).toNat = min (v.toNat + 1) 65535 := by
  unfold sat16Inc
  split
  · subst v; rfl
  · bv_omega

/-- Settles O43: the one result that comes with a change of `CNT_CSUM` is `RES_CSUM_MISMATCH`. -/
theorem mismatchCountSaturates : Obligations.MismatchCountSaturates := by
  intro s t h hr
  obtain ⟨evs, hevs, effect⟩ := step_resultEffect h hr
  cases effect with
  | quiet strobe lastRes cnt trace => simp [strobe, cnt]
  | completes c strobe lastRes cnt trace =>
    obtain ⟨hc, cnt⟩ | ⟨rfl, cnt⟩ := cnt
    · simp [lastRes, hc, cnt]
    · simp [strobe, lastRes, cnt, sat16Inc_toNat]

/-! ### The malformed cause (R24) -/

/-- Completing a read leaves the cause as it is (R100). -/
theorem State.complete_malf (s : State) : s.complete.frm.malf = s.frm.malf := by
  obtain ⟨smp, cnt, c, e, -⟩ := s.complete_spec
  rw [e]
  rfl

/-- In a legal state a read with a cause set is in the body of its frame: no cause is set before (R93). -/
theorem Inv.body_of_malf {s : State} (inv : Inv s) (hs : s.frm.state ≠ .idle) (hm : s.frm.malf ≠ .none) :
    s.frm.state = .body := by
  cases hst : s.frm.state with
  | idle => exact absurd hst hs
  | len0 => exact absurd (inv.lenStart (.inl hst)).1 hm
  | len1 => exact absurd (inv.lenStart (.inr hst)).1 hm
  | body => rfl

/-- In a legal state with a cause set the framer is not at header index 3, where R95 validates: in the header only `P < 4`
has been flagged, and `F_IDX` stays below `P`. -/
theorem Inv.idx_ne_three_of_malf {s : State} (inv : Inv s) (hb : s.frm.state = .body) (hm : s.frm.malf ≠ .none) :
    s.frm.idx.toNat ≠ 3 := by
  intro hi
  obtain ⟨-, -, ⟨hnone, -⟩ | ⟨-, hp⟩⟩ := inv.headStart hb hi.le
  · exact hm hnone
  · have hlt := (inv.bodyIdx hb).1
    omega

/-- In a legal state a received byte keeps a cause that is set. -/
theorem State.framerByte_keeps_malf {b : Byte} {s t : State} (inv : Inv s) (hs : s.frm.state ≠ .idle)
    (hm : s.frm.malf ≠ .none) (h : (s.beginStep.rxTake.log (.rx b)).framerByte b = .next t) :
    t.frm.malf = s.frm.malf := by
  have hbody := inv.body_of_malf hs hm
  have hidx := inv.idx_ne_three_of_malf hbody hm
  obtain ⟨f, a, ht, hmalf, -⟩ := State.framerByte_next b _ t (by exact hs) h
  have hf : f.malf = s.frm.malf := hmalf hbody (show s.frm.idx.toNat ≤ 2 ∨ 4 ≤ s.frm.idx.toNat by omega)
  obtain ⟨rfl, -⟩ | ⟨rfl, -⟩ := ht
  · exact hf
  · exact (State.complete_malf _).trans hf

/-- Settles O44: only the framer's byte and an accepted `RD_FRAME` write the cause, and the byte keeps one that is set. -/
theorem malformedCauseIsSticky : Obligations.MalformedCauseIsSticky := by
  intro s t inv h hr hm hrd
  rcases step_next s t h hr with ⟨hf, rfl | ⟨b, -, hb⟩⟩ | ⟨-, ha, he⟩ | ⟨-, -, -, rfl⟩ |
    ⟨-, -, w, rest, u, -, rfl, rfl | ⟨b, rfl⟩ | rfl | ⟨-, rfl⟩ | ⟨-, rfl⟩⟩
  · rfl
  · exact State.framerByte_keeps_malf inv hf hm hb
  · obtain ⟨hs, rx, reads, ovf, abd, polls, evs, ⟨rfl, -⟩ | ⟨rfl, -⟩, -⟩ := exec_hstep s.beginStep t ha he <;> rfl
  · rfl
  · rfl
  · rfl
  · exact absurd (by simp) hrd
  · rfl
  · rfl

/-! ### Reset (R33) -/

/-- Settles O1: the reset state is the last column of R10's table, written out. -/
theorem resetLeavesTableValues : Obligations.ResetLeavesTableValues :=
  ⟨rfl, fun _ => rfl, rfl, rfl, rfl, rfl, rfl⟩

end Sys2Proof.Machine
end

/-! The memory and the channel (20_memory.md): the events a step adds to the trace, and what writes and shows `PAY`. -/

section
namespace Sys2Proof.Machine

/-! ### The channel (R43, R46, R55) -/

/-- What a trace transmits is what its parts transmit, one after the other. -/
theorem sentBytes_append (tr evs : List Event) : sentBytes (tr ++ evs) = sentBytes tr ++ sentBytes evs :=
  List.filterMap_append ..

/-- A handshake step adds at most one channel operation, and transmits in the three sending states only (R139, R144, R146). -/
theorem exec_hstep_trace {s t : State} (ha : s.hsm.state.active = true)
    (h : exec (hstepRow s.hsm.state) s = .next t) :
    ∃ evs, t.trace = s.trace ++ evs ∧ (evs.filter Event.isChannelOp).length ≤ 1 ∧
      (s.hsm.state ≠ .txInit ∧ s.hsm.state ≠ .txConf ∧ s.hsm.state ≠ .rtyTx → sentBytes evs = []) := by
  obtain ⟨hs, rx, reads, ovf, abd, polls, evs, ⟨rfl, -⟩ | ⟨rfl, -⟩, -, hone, -, hsent, -⟩ := exec_hstep s t ha h
  · exact ⟨evs, rfl, hone, fun ⟨h1, h2, h3⟩ => hsent h1 h2 h3⟩
  · refine ⟨evs ++ [.result .hsLocked], List.append_assoc .., by simpa [Event.isChannelOp] using hone, ?_⟩
    rintro ⟨h1, h2, h3⟩
    rw [sentBytes_append, hsent h1 h2 h3]
    rfl

/-- Every step, reset included, only adds to the trace; it adds at most one channel operation, and a transmission only from
the three sending states of the handshake. -/
theorem step_trace {s t : State} (h : step s = .next t) :
    ∃ evs, t.trace = s.trace ++ evs ∧ (evs.filter Event.isChannelOp).length ≤ 1 ∧
      (s.frm.state ≠ .idle ∨ s.hsm.state ≠ .txInit ∧ s.hsm.state ≠ .txConf ∧ s.hsm.state ≠ .rtyTx →
        sentBytes evs = []) := by
  by_cases hr : s.rst.head? = some true
  · obtain rfl : s.beginStep.hardReset = t := by simpa [step, State.rstNow, List.headD_eq_head?_getD, hr] using h
    exact ⟨[], (List.append_nil _).symm, Nat.zero_le _, fun _ => rfl⟩
  rcases step_next s t h hr with ⟨hf, rfl | ⟨b, -, hb⟩⟩ | ⟨hf, ha, he⟩ | ⟨-, -, -, rfl⟩ |
    ⟨-, -, w, rest, u, -, rfl, rfl | ⟨b, rfl⟩ | rfl | ⟨-, rfl⟩ | ⟨-, rfl⟩⟩
  · exact ⟨[], (List.append_nil _).symm, Nat.zero_le _, fun _ => rfl⟩
  · cases State.framerByte_resultEffect hf hb with
    | quiet _ _ _ trace => exact ⟨[.rx b], trace, le_rfl, fun _ => rfl⟩
    | completes c _ _ _ trace => exact ⟨[.rx b, .result c], by simpa using trace, le_rfl, fun _ => rfl⟩
  · obtain ⟨evs, trace, hone, hsent⟩ := exec_hstep_trace (s := s.beginStep) ha he
    exact ⟨evs, trace, hone, fun hn => hsent (hn.resolve_left (not_not_intro hf))⟩
  · exact ⟨[], (List.append_nil _).symm, Nat.zero_le _, fun _ => rfl⟩
  · exact ⟨[.csClr, .result .csDone], List.append_assoc .., Nat.zero_le _, fun _ => rfl⟩
  · exact ⟨[.csAdd b, .result .csDone], List.append_assoc .., Nat.zero_le _, fun _ => rfl⟩
  · exact ⟨[.rdFrame], rfl, Nat.zero_le _, fun _ => rfl⟩
  · exact ⟨[.hsStart], rfl, Nat.zero_le _, fun _ => rfl⟩
  · exact ⟨[.hsStart, .result .rejected], List.append_assoc .., Nat.zero_le _, fun _ => rfl⟩

/-- Settles O46: one half of what a step adds to the trace. -/
theorem oneChannelOperationPerStep : Obligations.OneChannelOperationPerStep := by
  intro s t h
  obtain ⟨evs, trace, hone, -⟩ := step_trace h
  exact ⟨evs, trace, hone⟩

/-- Settles O47: the other half, the added events transmit nothing. -/
theorem onlyTheHandshakeTransmits : Obligations.OnlyTheHandshakeTransmits := by
  intro s t h hn
  obtain ⟨evs, trace, -, hsent⟩ := step_trace h
  rw [trace, sentBytes_append, hsent hn, List.append_nil]

/-! ### What writes `PAY` (R40, R96) -/

/-- Completing a read leaves `PAY` as it is (R100). -/
theorem State.complete_pay (s : State) : s.complete.frm.pay = s.frm.pay := by
  obtain ⟨smp, cnt, c, e, -⟩ := s.complete_spec
  rw [e]
  rfl

/-- Decoding a frame leaves `PAY` as it is (R120). -/
theorem State.decodeFrameAs_pay (s : State) (t : Half) : (s.decodeFrameAs t).frm.pay = s.frm.pay := by
  obtain ⟨smp, c, e, -⟩ := s.decodeFrameAs_spec t
  rw [e]
  rfl

/-- A first reply leaves `PAY` as it is (R145). -/
theorem State.rxEchoByte_pay (r : Byte) (s : State) : (s.rxEchoByte r).frm.pay = s.frm.pay := by
  unfold State.rxEchoByte
  split <;> rfl

/-- A reply in the confirm retry loop leaves `PAY` as it is (R147). -/
theorem State.rtyRxByte_pay (r : Byte) (s : State) : (s.rtyRxByte r).frm.pay = s.frm.pay := by
  unfold State.rtyRxByte
  split <;> rfl

/-- A control character taken from the channel leaves `PAY` as it is, in any state (R151). -/
theorem State.receiveCtl_pay (r : Byte) (s : State) : (s.receiveCtl r).frm.pay = s.frm.pay := by
  unfold State.receiveCtl
  split
  · exact s.rxEchoByte_pay r
  · exact s.rtyRxByte_pay r
  all_goals rfl

/-- The second byte of the length field leaves `PAY` as it is (R93). -/
theorem State.len1Byte_pay (b : Byte) (s : State) : (s.len1Byte b).frm.pay = s.frm.pay := by
  unfold State.len1Byte
  dsimp only
  split
  · exact State.complete_pay _
  · split <;> rfl

/-- The next state an outcome gives, if any, has the payload buffer of `s`. -/
def PayKept (s : State) (o : Outcome) : Prop := ∀ t, o = .next t → t.frm.pay = s.frm.pay

section
variable {s t u : State} {c : Prop} [Decidable c]

/-- Of a row whose one next state keeps `PAY`. -/
theorem PayKept.next (h : t.frm.pay = s.frm.pay) : PayKept s (.next t) := by
  rintro _ ⟨⟩
  exact h

/-- Of a row that does something in its own state only (log 8). -/
theorem PayKept.next_ite (ht : t.frm.pay = s.frm.pay) (hu : u.frm.pay = s.frm.pay) :
    PayKept s (.next (if c then t else u)) := by
  split
  · exact .next ht
  · exact .next hu

/-- Of a row that reads the channel in its own state only. -/
theorem PayKept.ite_onRead {k : Byte → State → State} (hk : ∀ b u, (k b u).frm.pay = u.frm.pay) :
    PayKept s (if c then s.onRead fun b t => .next (k b t) else .next s) := by
  split
  · obtain ⟨b, -, e⟩ | ⟨-, e⟩ := s.onRead_cases fun b t => .next (k b t)
    · rw [e]
      exact .next (hk b _)
    · rw [e]
      exact .next rfl
  · exact .next rfl

end

/-- Every row but `F_BODY` and `FRAME` keeps the payload buffer. -/
theorem exec_payKept (i : Instr) (s : State) (hb : i ≠ .fBody) (hf : ∀ p body, i ≠ .frame p body) :
    PayKept s (exec i s) := by
  cases i with
  | fBody => exact absurd rfl hb
  | frame p body => exact absurd rfl (hf p body)
  | csClr | csAdd | rdFrame => exact .next_ite rfl rfl
  | hsStart => exact .next_ite rfl (by split <;> rfl)
  | ptAttQ7 => exact .next (s.decodeFrameAs_pay 0x0001#16)
  | ptAttF32 => exact .next (s.decodeFrameAs_pay 0x0002#16)
  | ptDbgU16 => exact .next (s.decodeFrameAs_pay 0x000B#16)
  | ptDbgF32 => exact .next (s.decodeFrameAs_pay 0x000C#16)
  | ptUnknown => exact .next rfl
  | ctlInit => exact .next_ite rfl (s.receiveCtl_pay _)
  | ctlConfirm => exact .next_ite rfl (by split; exacts [rfl, s.receiveCtl_pay _])
  | ctlFail | ctlRawlock | ctlOther => exact .next (s.receiveCtl_pay _)
  | hInitClr | hInitEn | hTxInit | hFlush | hDisAbd | hTxConf | hRtyTx => exact .next_ite rfl rfl
  | hChkOvf => exact .next_ite (by simp) rfl
  | hChkAbd => exact .next_ite (by simp) rfl
  | hRxEcho => exact .ite_onRead State.rxEchoByte_pay
  | hRtyRx => exact .ite_onRead State.rtyRxByte_pay
  | fLen0 => exact .ite_onRead fun _ _ => rfl
  | fLen1 => exact .ite_onRead State.len1Byte_pay
  | hIdle | hLocked | fIdle =>
    dsimp only [exec, execHIdle, execHLocked, execFIdle]
    split
    · exact .next rfl
    · split <;> exact .next rfl
  | resNone | resFrameOk | resFrameUnknown | resCsumMismatch | resMalformed | resDecodeLen | resHsLocked | resRejected
  | resCsDone | mfNone | mfHdrTrunc | mfCapacity | mfOverrun | mfSlack => exact .next rfl
  | resRsvdTimeout | resRsvdBudget => exact fun _ h => nomatch h

/-- A received byte leaves every byte of `PAY` but the one a payload byte of a well-formed frame is stored in (R94 to R98). -/
theorem State.framerByte_read_pay {b : Byte} {w t : State} {a : Nat} (hs : w.frm.state ≠ .idle)
    (h : w.framerByte b = .next t)
    (ha : ¬ (w.frm.state = .body ∧ w.frm.malf = .none ∧ 4 ≤ w.frm.idx.toNat ∧
      w.frm.idx.toNat < 4 + w.frm.bufNBytes.toNat ∧ a = w.frm.idx.toNat - 4)) :
    Memory.read t.frm.pay a = Memory.read w.frm.pay a := by
  obtain ⟨f, acc, ht, -, hpay⟩ := State.framerByte_next b w t hs h
  have ht : t.frm.pay = f.pay := by
    obtain ⟨rfl, -⟩ | ⟨rfl, -⟩ := ht
    · rfl
    · exact State.complete_pay _
  rw [ht]
  obtain e | ⟨hbody, hmalf, hlo, hhi, -, e⟩ := hpay
  · rw [e]
  · rw [e]
    exact Memory.read_write_other _ _ _ _ fun hidx => ha ⟨hbody, hmalf, hlo, hhi, hidx⟩

/-- Settles O51: of a step's branches only the framer's byte writes `PAY`, and what a row keeps is `exec_payKept`. -/
theorem onlyPayloadBytesWritePay : Obligations.OnlyPayloadBytesWritePay := by
  refine ⟨fun s t h hr a ha => ?_, fun i s t hb hf => exec_payKept i s hb hf t⟩
  rcases step_next s t h hr with ⟨hs, rfl | ⟨b, -, hb⟩⟩ | ⟨-, hact, he⟩ | ⟨-, -, -, rfl⟩ |
    ⟨-, -, w, rest, u, -, rfl, rfl | ⟨b, rfl⟩ | rfl | ⟨-, rfl⟩ | ⟨-, rfl⟩⟩
  · rfl
  · exact State.framerByte_read_pay (w := s.beginStep.rxTake.log (.rx b)) hs hb ha
  · obtain ⟨hs, rx, reads, ovf, abd, polls, evs, ⟨rfl, -⟩ | ⟨rfl, -⟩, -⟩ := exec_hstep s.beginStep t hact he <;> rfl
  all_goals rfl

/-! ### The host's read port (R45) -/

/-- The list `PAY[0 .. n)`, index by index, with zero past its end. -/
theorem Memory.getD_bytes (m : Memory) (n a : Nat) :
    (Memory.bytes m n).getD a 0x00#8 = if a < n then Memory.read m a else 0x00#8 := by
  by_cases h : a < n <;> simp [Memory.bytes, h]

/-- Settles O52: the port is that list at `PAYLEN`, and its mask is the end of the list. -/
theorem hostReadPortIsMasked : Obligations.HostReadPortIsMasked := by
  intro s addr
  exact ⟨(Memory.getD_bytes s.frm.pay s.frm.payLen.toNat addr.toNat).symm, fun h => if_neg h.not_gt, fun h => if_pos h⟩

end Sys2Proof.Machine
end

/-! The host's commands (40_commands.md): which command an opcode is, what each does in an idle block, and what the command
port and the outputs show. -/

section
namespace Sys2Proof.Machine

/-! ### Commands and `BUSY` (R80, R87) -/

/-- The block is idle when neither sequencer is in flight (R27). -/
theorem State.busy_eq_false_iff (s : State) : s.busy = false ↔ s.frm.state = .idle ∧ s.hsm.state.active = false := by
  simp [State.busy]

/-- A command row changes nothing while the block is busy (R87). -/
theorem exec_command_of_busy {i : Instr} {s : State} (hi : i.space = .cmd) (hb : s.busy = true) : exec i s = .next s := by
  cases i with
  | csClr | csAdd | rdFrame | hsStart => exact congrArg Host.Outcome.next (if_pos hb)
  | _ => cases hi

/-- An accepted command performs no channel operation: it takes no answer of the channel and adds none of its events. -/
theorem exec_cmd_no_channelOp (w : CmdWord) {s : State} (hb : s.busy = false) :
    ∃ t, exec (decodeCmd w) s = .next t ∧ t.cmds = s.cmds ∧ t.rx = s.rx ∧ t.reads = s.reads ∧ t.ovf = s.ovf ∧ t.abd = s.abd ∧
      t.polls = s.polls ∧ t.trace.filter Event.isChannelOp = s.trace.filter Event.isChannelOp := by
  rcases exec_cmd w s hb with e | ⟨b, e⟩ | e | ⟨-, e⟩ | ⟨-, e⟩
  all_goals exact ⟨_, e, rfl, rfl, rfl, rfl, rfl, rfl, by simp [Event.isChannelOp]⟩

/-- The step of an idle block with a command at the port runs that command, off the port (R80). -/
theorem step_of_command {s : State} {w : CmdWord} {rest : List CmdWord} (hb : s.busy = false) (hc : s.cmds = w :: rest)
    (hr : s.rst.head? ≠ some true) : step s = exec (decodeCmd w) { s.beginStep with cmds := rest } := by
  obtain ⟨hf, ha⟩ := s.busy_eq_false_iff.mp hb
  simp [step, State.fetch, s.rstNow_false hr, hf, ha, hc]

/-- A step under reset is the reset, whatever is in flight (R185). -/
theorem step_of_reset {s : State} (hr : s.rst.head? = some true) : step s = .next s.beginStep.hardReset := by
  simp [step, State.rstNow, List.headD_eq_head?_getD, hr]

/-- Completing a read leaves the command port as it is (R100). -/
theorem State.complete_cmds (s : State) : s.complete.cmds = s.cmds := by
  obtain ⟨smp, cnt, c, e, -⟩ := s.complete_spec
  rw [e]
  rfl

/-- A received byte leaves the command port as it is. -/
theorem State.framerByte_cmds {b : Byte} {w t : State} (hs : w.frm.state ≠ .idle) (h : w.framerByte b = .next t) :
    t.cmds = w.cmds := by
  obtain ⟨f, a, ⟨rfl, -⟩ | ⟨rfl, -⟩, -⟩ := State.framerByte_next b w t hs h
  · rfl
  · exact State.complete_cmds _

/-- A step of a busy block, reset included, leaves the host's commands at the port: a step takes one off only with both
sequencers at rest. -/
theorem step_keeps_cmds_of_busy {s t : State} (hb : s.busy = true) (h : step s = .next t) : t.cmds = s.cmds := by
  by_cases hr : s.rst.head? = some true
  · obtain rfl := Host.Outcome.next.inj ((step_of_reset hr).symm.trans h)
    rfl
  have notIdle (hf : s.frm.state = .idle) (ha : s.hsm.state.active = false) : False := by
    simp [s.busy_eq_false_iff.mpr ⟨hf, ha⟩] at hb
  rcases step_next s t h hr with ⟨hf, rfl | ⟨b, -, hbyte⟩⟩ | ⟨-, ha, he⟩ | ⟨hf, ha, -⟩ | ⟨hf, ha, -⟩
  · rfl
  · exact State.framerByte_cmds (w := s.beginStep.rxTake.log (.rx b)) hf hbyte
  · obtain ⟨hs, rx, reads, ovf, abd, polls, evs, ⟨rfl, -⟩ | ⟨rfl, -⟩, -⟩ := exec_hstep s.beginStep t ha he <;> rfl
  · exact (notIdle hf ha).elim
  · exact (notIdle hf ha).elim

/-- Settles O7: an idle block's step is the command at the port, and a busy block's step takes none off it. -/
theorem commandsAreAcceptedIffNotBusy : Obligations.CommandsAreAcceptedIffNotBusy := by
  intro s
  refine ⟨fun hb => ⟨fun _ => by simp [hostOutputs, hb], fun w rest hc hr => ?_⟩, fun hb => ?_⟩
  · rw [step_of_command hb hc hr]
    exact exec_cmd_no_channelOp w (s := { s.beginStep with cmds := rest }) hb
  · exact ⟨fun _ => exec_command_of_busy rfl hb, fun _ => exec_command_of_busy rfl hb, fun _ => exec_command_of_busy rfl hb,
      fun _ => exec_command_of_busy rfl hb, fun _ => by simp [hostOutputs, hb], fun _ => step_keeps_cmds_of_busy hb⟩

/-! ### The commands of the checksum engine (R81 to R83) -/

section
variable {s : State} (hb : s.busy = false)
include hb

theorem exec_csClr_of_idle (d : Byte) : exec (.csClr d) s = .next ((s.log .csClr).csClear.emit .csDone) := by
  simp [exec, execCsClr, hb]

theorem exec_csAdd_of_idle (b : Byte) :
    exec (.csAdd b) s = .next (((s.log (.csAdd b)).csAccumulate b).emit .csDone) := by
  simp [exec, execCsAdd, hb]

theorem exec_rdFrame_of_idle (d : Byte) : exec (.rdFrame d) s = .next (s.log .rdFrame).startRead := by
  simp [exec, execRdFrame, hb]

end

/-- An accumulation on unbounded integers: the sum modulo 256 (R111). -/
theorem addByte_eq_ofNat (acc b : Byte) : addByte acc b = BitVec.ofNat 8 ((acc.toNat + b.toNat) % 256) := by
  apply BitVec.eq_of_toNat_eq
  simp [addByte]

/-- Settles O3: an idle block's `CS_CLR` is Clear and its result, which write no sequencer. -/
theorem csClrClearsTheSum : Obligations.CsClrClearsTheSum := by
  refine ⟨fun d => decodeCmd_append 0b00#2 d, fun d s hb => ⟨_, exec_csClr_of_idle hb d, ?_, hb⟩⟩
  simp [State.emit, State.csClear, State.log]

/-- Settles O4: an idle block's `CS_ADD` is one accumulation, modulo 256, and its result; the block is still idle after it, so
that an `RD_FRAME` there starts a read. -/
theorem csAddAccumulates : Obligations.CsAddAccumulates := by
  refine ⟨fun b => decodeCmd_append 0b01#2 b, fun b s hb =>
    ⟨_, exec_csAdd_of_idle hb b, ?_, hb, fun d => ⟨_, exec_rdFrame_of_idle (by exact hb) d, rfl⟩⟩⟩
  simp [State.emit, State.csAccumulate, State.log, addByte_eq_ofNat]

/-! ### The outputs (R86) -/

/-- Settles O53: each output is a wire from its register; `pay_data` is the masked read of R45. -/
theorem hostOutputsShowTheRegisters : Obligations.HostOutputsShowTheRegisters := by
  rintro addr s _ rfl
  exact ⟨rfl, rfl, rfl, rfl, rfl, rfl, rfl, rfl, rfl, rfl, rfl, rfl, rfl, rfl, rfl, rfl, rfl, rfl⟩

end Sys2Proof.Machine
end

/-! The Packet Framer (41_packet_framer.md): how a read starts, and what one received byte does in each state of the framer. -/

section
namespace Sys2Proof.Machine

/-! ### Receiving a byte and ending a read (R47, R99, R100) -/

/-- A read of a channel that has the byte `b` next takes it off the list and joins it to the trace (R47, R55). -/
theorem State.onRead_of_cons {s : State} {b : Byte} {rest : List (Option Byte)} (hx : s.rx = some b :: rest)
    (k : Byte → State → Outcome) : s.onRead k = k b (({ s with rx := rest } : State).log (.rx b)) := by
  rw [s.onRead_of_byte k b (s.rxAnswer_cons _ _ hx), s.rxTake_cons _ _ hx]

/-- Away from the last byte of the body, advancing is one more index (R99). -/
theorem State.advance_of_ne {s : State} (h : s.frm.idx.toNat + 1 ≠ s.frm.pktNBytes.toNat) :
    s.advance = { s with frm := { s.frm with idx := s.frm.idx + 1#16 } } :=
  if_neg h

/-- At the last byte of the body, advancing is completion (R99). -/
theorem State.advance_of_eq {s : State} (h : s.frm.idx.toNat + 1 = s.frm.pktNBytes.toNat) : s.advance = s.complete :=
  if_pos h

/-- The end of a read in the step that received its last byte: both events join the trace. -/
theorem State.finishFrame_log (s : State) (b : Byte) (c : ResCode) :
    (s.log (.rx b)).finishFrame c = { s with
      frm := { s.frm with state := .idle }, lastRes := c, resValid := true, trace := s.trace ++ [.rx b, .result c] } := by
  simp [State.finishFrame, State.emit, State.log]

/-- A mismatch reported in the step that received the checksum byte (R115). -/
theorem State.raiseCsumMismatch_log (s : State) (b : Byte) :
    (s.log (.rx b)).raiseCsumMismatch = { s with
      frm := { s.frm with state := .idle }, cse := { s.cse with cnt := sat16Inc s.cse.cnt }, lastRes := .csumMismatch,
      resValid := true, trace := s.trace ++ [.rx b, .result .csumMismatch] } :=
  State.finishFrame_log { s with cse := { s.cse with cnt := sat16Inc s.cse.cnt } } b .csumMismatch

/-- A frame with a cause set completes as malformed (R100, R163). -/
theorem State.complete_of_malf {s : State} (hm : s.frm.malf ≠ .none) : s.complete = s.finishFrame .malformed :=
  if_pos hm

/-- A frame with no cause and the wrong checksum byte completes as a mismatch (R100, R115). -/
theorem State.complete_of_mismatch {s : State} (hm : s.frm.malf = .none) (hc : s.cse.acc ≠ s.frm.rxCsum) :
    s.complete = s.raiseCsumMismatch := by
  simp [State.complete, hm, hc]

/-- The row of a packet type is the decoder at that type (R65, R120). -/
theorem exec_decodePType (t : Half) (s : State) : exec (decodePType t) s = .next (s.decodeFrameAs t) := by
  unfold decodePType State.decodeFrameAs
  split_ifs <;> rfl

/-- A frame with no cause and the right checksum byte completes by running the row of its type (R100). -/
theorem State.complete_of_match {s : State} (hm : s.frm.malf = .none) (hc : s.cse.acc = s.frm.rxCsum) :
    .next s.complete = exec (decodePType s.frm.pktType) s := by
  simp [exec_decodePType, State.complete, hm, hc]

/-! ### The length field (R93) -/

section
variable {s : State} {b : Byte} {p : Half} (hp : p = s.frm.pktNBytes.extractLsb' 8 8 ++ b)
include hp

/-- With `P = 0` the read completes in the step of its second length byte, as malformed. -/
theorem State.len1Byte_zero (h : p = 0#16) :
    s.len1Byte b = ({ s with frm := { s.frm with pktNBytes := p, malf := .hdrTrunc } } : State).finishFrame .malformed := by
  subst hp
  exact (if_pos h).trans (State.complete_of_malf (by simp))

/-- With `P` not 0 the body follows, flagged where it has no room for a header. -/
theorem State.len1Byte_ne_zero (h : p ≠ 0#16) :
    s.len1Byte b = { s with frm := { s.frm with
      pktNBytes := p, malf := if p.toNat < 4 then .hdrTrunc else s.frm.malf, idx := 0#16, state := .body } } := by
  unfold State.len1Byte
  dsimp only [beHalf, hiByte]
  rw [← hp, if_neg h]
  split_ifs <;> rfl

end

/-! ### The header bytes (R94, R95) -/

section
variable {s : State}

theorem State.headerByte_zero (b : Byte) (h : s.frm.idx = 0#16) :
    s.headerByte b = { s with frm := { s.frm with pktType := b ++ 0x00#8 } } :=
  if_pos h

theorem State.headerByte_one (b : Byte) (h : s.frm.idx = 1#16) :
    s.headerByte b = { s with frm := { s.frm with pktType := s.frm.pktType.extractLsb' 8 8 ++ b } } := by
  simp [State.headerByte, h, beHalf, hiByte]

theorem State.headerByte_two (b : Byte) (h : s.frm.idx = 2#16) :
    s.headerByte b = { s with frm := { s.frm with bufNBytes := b ++ 0x00#8 } } := by
  simp [State.headerByte, h, beHalf]

/-- Validation writes its outcome to `F_MALF`, which stays as it is where the header is well-formed (R95). -/
theorem State.validateHeader_eq (s : State) :
    s.validateHeader = s.setMalf ((validate s.frm.pktNBytes s.frm.bufNBytes).getD s.frm.malf) := by
  unfold State.validateHeader
  cases validate s.frm.pktNBytes s.frm.bufNBytes <;> rfl

theorem State.headerByte_three (b : Byte) {n : Half} (h : s.frm.idx = 3#16)
    (hn : n = s.frm.bufNBytes.extractLsb' 8 8 ++ b) :
    s.headerByte b = { s with frm := { s.frm with
      bufNBytes := n, malf := (validate s.frm.pktNBytes n).getD s.frm.malf } } := by
  simp [State.headerByte, h, State.validateHeader_eq, State.setMalf, beHalf, hiByte, hn]

end

/-- With no room for a checksum byte after the header, validation flags a cause (R95). -/
theorem validate_of_length_four {p n : Half} (hp : p.toNat = 4) :
    validate p n = some .capacity ∨ validate p n = some .overrun := by
  unfold validate
  by_cases hn : 50 < n.toNat
  · exact .inl (if_pos hn)
  · exact .inr (by rw [if_neg hn, if_pos (by omega)])

/-! ### The byte of a body step, by its index (R94 to R98) -/

section
variable {s : State}

theorem State.bodyByte_header {b : Byte} {t : State} (hi : s.frm.idx.toNat ≤ 3) (ht : s.headerByte b = t) :
    s.bodyByte b = .next t.advance := by
  rw [State.bodyByte, if_pos hi, ht]

theorem State.bodyByte_drain (b : Byte) (hi : 4 ≤ s.frm.idx.toNat) (hm : s.frm.malf ≠ .none) :
    s.bodyByte b = .next s.advance := by
  rw [State.bodyByte, if_neg (by omega), if_pos hm]

theorem State.bodyByte_payload (b : Byte) (hi : 4 ≤ s.frm.idx.toNat) (hm : s.frm.malf = .none)
    (hn : s.frm.bufNBytes.toNat ≤ 50) (hlt : s.frm.idx.toNat < 4 + s.frm.bufNBytes.toNat) :
    s.bodyByte b = .next (s.storePayload b).advance := by
  rw [State.bodyByte, if_neg (by omega), if_neg (not_not.mpr hm), if_pos hlt, if_pos (by unfold payCap; omega)]

theorem State.bodyByte_checksum (b : Byte) (hm : s.frm.malf = .none)
    (hi : s.frm.idx.toNat = 4 + s.frm.bufNBytes.toNat) :
    s.bodyByte b = .next ({ s with frm := { s.frm with rxCsum := b } } : State).advance := by
  rw [State.bodyByte, if_neg (by omega), if_neg (not_not.mpr hm), if_neg (by omega), if_pos hi]

end

/-! ### The framer's rows with a byte on the channel -/

section
variable {s : State} {b : Byte} {rest : List (Option Byte)} (hx : s.rx = some b :: rest)
include hx

theorem exec_fLen0_of_cons (hs : s.frm.state = .len0) :
    exec .fLen0 s = .next ((({ s with rx := rest } : State).log (.rx b)).len0Byte b) :=
  (if_pos hs).trans (State.onRead_of_cons hx _)

theorem exec_fLen1_of_cons (hs : s.frm.state = .len1) :
    exec .fLen1 s = .next ((({ s with rx := rest } : State).log (.rx b)).len1Byte b) :=
  (if_pos hs).trans (State.onRead_of_cons hx _)

variable (hs : s.frm.state = .body)
include hs

theorem exec_fBody_of_cons : exec .fBody s = (({ s with rx := rest } : State).log (.rx b)).bodyByte b :=
  (if_pos hs).trans (State.onRead_of_cons hx _)

/-- A body byte that writes the Frame registers to `f` and advances from there: away from the last byte the index goes on, and
at the last byte a frame with a cause set ends as malformed (R99, R100). -/
theorem exec_fBody_of_advance {f : Framer}
    (hb : (({ s with rx := rest } : State).log (.rx b)).bodyByte b =
      .next (({ s with frm := f, rx := rest } : State).log (.rx b)).advance) :
    (f.idx.toNat + 1 ≠ f.pktNBytes.toNat → exec .fBody s = .next { s with
      frm := { f with idx := f.idx + 1#16 }, rx := rest, trace := s.trace ++ [.rx b] }) ∧
    (f.idx.toNat + 1 = f.pktNBytes.toNat → f.malf ≠ .none → exec .fBody s = .next { s with
      frm := { f with state := .idle }, rx := rest, lastRes := .malformed, resValid := true,
      trace := s.trace ++ [.rx b, .result .malformed] }) := by
  rw [exec_fBody_of_cons hx hs, hb]
  refine ⟨fun hne => ?_, fun heq hm => ?_⟩
  · rw [State.advance_of_ne (by exact hne)]
    rfl
  · rw [State.advance_of_eq (by exact heq), State.complete_of_malf (by exact hm), State.finishFrame_log]

end

/-! ### The statements -/

/-- Settles O9: at each of the three indices the byte writes `f` and the step advances from there. -/
theorem fBodyCapturesTheHeader : Obligations.FBodyCapturesTheHeader := by
  intro s b rest f hs hx hf
  have hi : s.frm.idx.toNat ≤ 3 := by
    rcases hf with ⟨h, -⟩ | ⟨h, -⟩ | ⟨h, -⟩ <;> rw [h] <;> decide
  have hw : (({ s with rx := rest } : State).log (.rx b)).headerByte b =
      ({ s with frm := f, rx := rest } : State).log (.rx b) := by
    rcases hf with ⟨h, rfl⟩ | ⟨h, rfl⟩ | ⟨h, rfl⟩
    · exact State.headerByte_zero b h
    · exact State.headerByte_one b h
    · exact State.headerByte_two b h
  obtain ⟨hidx, hp, hm⟩ : f.idx = s.frm.idx ∧ f.pktNBytes = s.frm.pktNBytes ∧ f.malf = s.frm.malf := by
    rcases hf with ⟨-, rfl⟩ | ⟨-, rfl⟩ | ⟨-, rfl⟩ <;> exact ⟨rfl, rfl, rfl⟩
  obtain ⟨goesOn, ends⟩ := exec_fBody_of_advance hx hs (f := f) (State.bodyByte_header (by exact hi) hw)
  rw [← hidx, ← hp, ← hm]
  exact ⟨goesOn, fun heq hmalf => ends heq (by simp [hmalf])⟩

/-- Settles O10: the byte at index 3 completes `B` and writes the outcome of validation; with `P = 4` that is a cause, and the
byte is the last one. -/
theorem fBodyValidatesTheHeader : Obligations.FBodyValidatesTheHeader := by
  intro s b rest n m hs hx hi hmalf _ hn hm
  have hm : m = (validate s.frm.pktNBytes n).getD .none := by
    rw [hm, validate]
    split_ifs <;> rfl
  obtain ⟨goesOn, ends⟩ := exec_fBody_of_advance hx hs (f := { s.frm with bufNBytes := n, malf := m })
    (State.bodyByte_header (by simp [hi]) (by rw [State.headerByte_three b (by exact hi) (by exact hn), hm, ← hmalf]; rfl))
  have hidx : s.frm.idx + 1#16 = 4#16 := by rw [hi]; rfl
  refine ⟨fun hp => ?_, fun hp => ?_⟩
  · rw [← hidx]
    exact goesOn (by simpa [hi] using Ne.symm hp)
  · have hcause : m = .capacity ∨ m = .overrun := by
      rcases validate_of_length_four (n := n) hp with h | h <;> simp [hm, h]
    exact ⟨hcause, ends (by simp [hi, hp]) (by rcases hcause with h | h <;> simp [h])⟩

/-- Settles O11: the byte is stored and summed, and with `P = B + 5` its index `i < 4 + B` is never the last one. -/
theorem fBodyStoresAndSumsPayload : Obligations.FBodyStoresAndSumsPayload := by
  intro s b rest hs hx hm hn hp hlo hhi hwf
  have hne : s.frm.idx.toNat + 1 ≠ s.frm.pktNBytes.toNat := by omega
  have hidx : s.frm.idx + 1#16 = BitVec.ofNat 16 (s.frm.idx.toNat + 1) := by simp [BitVec.ofNat_add]
  have he : exec .fBody s = .next ((({ s with rx := rest } : State).log (.rx b)).storePayload b).advance :=
    (exec_fBody_of_cons hx hs).trans (State.bodyByte_payload b hlo hm hn hhi)
  rw [State.advance_of_ne (by exact hne)] at he
  refine ⟨_, he, ?_, ?_, ?_, ?_⟩
  · rw [← hidx]
    rfl
  · exact Memory.read_write_same s.frm.pay 0 _ b hwf
  · exact fun a ha => Memory.read_write_other s.frm.pay _ a b ha
  · exact Memory.wf_write s.frm.pay (s.frm.idx.toNat - 4) b hwf (by unfold payCap; omega)

/-- Settles O12: the byte at index `4 + B` is the last one, and the read completes on the comparison of it with the sum. -/
theorem checksumByteDecidesTheFrame : Obligations.ChecksumByteDecidesTheFrame := by
  intro s b rest hs hx hm hp hi
  have hlast : s.frm.idx.toNat + 1 = s.frm.pktNBytes.toNat := by omega
  have he : exec .fBody s = .next
      (({ s with frm := { s.frm with rxCsum := b }, rx := rest } : State).log (.rx b)).complete := by
    rw [exec_fBody_of_cons hx hs, State.bodyByte_checksum b (by exact hm) (by exact hi), State.advance_of_eq (by exact hlast)]
    rfl
  refine ⟨fun hc => ?_, fun hc => ?_⟩
  · rw [he, State.complete_of_mismatch (by exact hm) (by exact hc), State.raiseCsumMismatch_log]
    rfl
  · rw [he]
    exact State.complete_of_match (by exact hm) (by exact hc)

/-- Settles O13: after the header of a malformed frame a byte only advances. -/
theorem fBodyDrainsMalformedFrames : Obligations.FBodyDrainsMalformedFrames := by
  intro s b rest hs hx hm hi
  obtain ⟨goesOn, ends⟩ := exec_fBody_of_advance hx hs (f := s.frm) (State.bodyByte_drain b hi hm)
  exact ⟨goesOn, fun heq => ends heq hm⟩

/-- Settles O5: an idle block's `RD_FRAME` starts a read, after which the framer is in flight. -/
theorem rdFrameStartsARead : Obligations.RdFrameStartsARead :=
  ⟨fun d => decodeCmd_append 0b10#2 d, fun d _ hb => ⟨_, exec_rdFrame_of_idle hb d, rfl, rfl⟩⟩

/-- Settles O8: the two bytes of the length field; with `P = 0` the read completes as malformed. -/
theorem lengthFieldIsAssembled : Obligations.LengthFieldIsAssembled := by
  intro s b rest hx
  refine ⟨fun hs => exec_fLen0_of_cons hx hs, fun hs p hp => ⟨fun h0 => ?_, fun h0 => ?_⟩⟩
  · rw [exec_fLen1_of_cons hx hs, State.len1Byte_zero (by exact hp) h0]
    exact congrArg Host.Outcome.next (State.finishFrame_log
      { s with frm := { s.frm with pktNBytes := p, malf := .hdrTrunc }, rx := rest } b .malformed)
  · rw [exec_fLen1_of_cons hx hs, State.len1Byte_ne_zero (by exact hp) h0]
    rfl

end Sys2Proof.Machine
end

/-! The checksum of a byte sequence (42_checksum_engine.md). -/

section
namespace Sys2Proof.Machine

@[simp] theorem checksum_nil : checksum [] = 0x00#8 := rfl

/-- The left-to-right accumulation is the sum of the list in the ring of bytes. -/
theorem checksum_eq_sum (p : List Byte) : checksum p = p.sum := List.sum_eq_foldl.symm

@[simp] theorem checksum_cons (b : Byte) (p : List Byte) : checksum (b :: p) = b + checksum p := by
  simp [checksum_eq_sum]

/-- Bytes are added modulo 256, and reducing each partial sum changes nothing modulo 256. -/
theorem toNat_checksum (p : List Byte) : (checksum p).toNat = (p.map BitVec.toNat).sum % 256 := by
  induction p with
  | nil => rfl
  | cons b p ih =>
    calc (checksum (b :: p)).toNat
      _ = (b.toNat + (checksum p).toNat) % 256 := by rw [checksum_cons, BitVec.toNat_add]
      _ = (b.toNat + (p.map BitVec.toNat).sum) % 256 := by rw [ih, Nat.add_mod_mod]
      _ = ((b :: p).map BitVec.toNat).sum % 256 := by rw [List.map_cons, List.sum_cons]

/-- Settles O18: by induction on the bytes, each added at the head modulo 256 (R110). -/
theorem checksumIsTheSumMod256 : Obligations.ChecksumIsTheSumMod256 :=
  ⟨checksum_nil, toNat_checksum⟩

end Sys2Proof.Machine
end

/-! The Payload Decoder (43_payload_decoder.md): what the row of each packet type writes, and that a step writes the Sample only
through it. -/

section
namespace Sys2Proof.Machine

/-! ### The byte order of binary32 fields (R124) -/

/-- Two words put together, on unbounded integers. -/
theorem toNat_append_eq_add {m n : Nat} (x : BitVec m) (y : BitVec n) : (x ++ y).toNat = x.toNat * 2 ^ n + y.toNat := by
  rw [BitVec.toNat_append, ← Nat.shiftLeft_add_eq_or_of_lt y.isLt, Nat.shiftLeft_eq]

/-- Settles O24: the pattern is the rearranged bytes put together from `out[3]` down, which is `in[0]` first. -/
theorem wordSwapIsBigEndianAndInvolutive : Obligations.WordSwapIsBigEndianAndInvolutive := by
  intro a b c d
  refine ⟨?_, rfl, rfl⟩
  simp only [f32FromWire, wordSwap, toNat_append_eq_add]
  omega

/-! ### The rows of the packet types (R121, R123, R125 to R128) -/

/-- Settles O21: the branch of the length 6. -/
theorem attQ7WritesThreeAngles : Obligations.AttQ7WritesThreeAngles :=
  ⟨rfl, fun _ hlen => congrArg Host.Outcome.next (if_pos hlen)⟩

/-- Settles O23: in each row the branch of its length. -/
theorem floatAndIntegerTypesCopyTheField : Obligations.FloatAndIntegerTypesCopyTheField :=
  ⟨rfl, rfl, rfl, fun _ => ⟨fun hlen => congrArg Host.Outcome.next (if_pos hlen),
    fun hlen => congrArg Host.Outcome.next (if_pos hlen), fun hlen => congrArg Host.Outcome.next (if_pos hlen)⟩⟩

/-- Settles O25: a type that is none of the four has the row `PT_UNKNOWN`, which looks at no payload. -/
theorem unknownTypeWritesTheSentinel : Obligations.UnknownTypeWritesTheSentinel :=
  ⟨fun t h1 h2 h11 h12 => by simp [decodePType, h1, h2, h11, h12], fun _ _ => rfl⟩

/-- Settles O26: in each row the other branch of its length, DecodeLength. -/
theorem wrongPayloadLengthDecodesNothing : Obligations.WrongPayloadLengthDecodesNothing := by
  rintro s _ rfl
  exact ⟨fun hlen => congrArg Host.Outcome.next (if_neg hlen), fun hlen => congrArg Host.Outcome.next (if_neg hlen),
    fun hlen => congrArg Host.Outcome.next (if_neg hlen), fun hlen => congrArg Host.Outcome.next (if_neg hlen)⟩

/-! ### What writes the Sample (R18, R129) -/

/-- The Sample `w` differs from `v` at most in the fields that packet type `t` selects (R129). -/
structure Sample.ChangedWithin (t : Half) (v w : Sample) : Prop where
  dbgInt : w.dbgInt = v.dbgInt
  angles : ¬ (t = 1#16 ∨ t = 2#16) → w.roll = v.roll ∧ w.pitch = v.pitch ∧ w.yaw = v.yaw
  dbgU16 : t = 1#16 ∨ t = 2#16 ∨ t = 12#16 → w.dbgU16 = v.dbgU16
  dbgF32 : t ≠ 12#16 → w.dbgF32 = v.dbgF32

theorem Sample.ChangedWithin.refl (t : Half) (v : Sample) : v.ChangedWithin t v :=
  ⟨rfl, fun _ => ⟨rfl, rfl, rfl⟩, fun _ => rfl, fun _ => rfl⟩

/-- A rule that asks for a length keeps the fields outside its type if its write does: with another length it writes
nothing (R128). -/
theorem Sample.ChangedWithin.ite_raiseDecodeLen {s u : State} {t : Half} {c : Prop} [Decidable c]
    (h : s.smp.ChangedWithin t u.smp) : s.smp.ChangedWithin t (if c then u else s.raiseDecodeLen).smp := by
  split
  · exact h
  · exact .refl _ _

/-- Decoding as a type writes the fields of that type only (R121 to R128). -/
theorem State.decodeFrameAs_changedWithin (s : State) (t : Half) : s.smp.ChangedWithin t (s.decodeFrameAs t).smp := by
  unfold State.decodeFrameAs
  split_ifs with h1 h2 h11 h12
  · exact .ite_raiseDecodeLen ⟨rfl, by simp [h1], fun _ => rfl, fun _ => rfl⟩
  · exact .ite_raiseDecodeLen ⟨rfl, by simp [h2], fun _ => rfl, fun _ => rfl⟩
  · exact .ite_raiseDecodeLen ⟨rfl, fun _ => ⟨rfl, rfl, rfl⟩, by simp [h11], fun _ => rfl⟩
  · exact .ite_raiseDecodeLen ⟨rfl, fun _ => ⟨rfl, rfl, rfl⟩, fun _ => rfl, by simp [h12]⟩
  · exact ⟨rfl, fun _ => ⟨rfl, rfl, rfl⟩, by simp [h1, h2, h12], fun _ => rfl⟩

/-- Completing a read leaves the frame's type as it is (R100). -/
theorem State.complete_pktType (s : State) : s.complete.frm.pktType = s.frm.pktType := by
  obtain ⟨smp, cnt, c, e, -⟩ := s.complete_spec
  rw [e]
  rfl

/-- Completing a read writes the Sample through the decoder only, at the frame's type (R100). -/
theorem State.complete_changedWithin (s : State) : s.smp.ChangedWithin s.frm.pktType s.complete.smp := by
  unfold State.complete
  split
  · exact .refl _ _
  split
  · exact .refl _ _
  · exact s.decodeFrameAs_changedWithin s.frm.pktType

/-- Completing a read changes the Sample only where no cause is set, and with one of the two results of a decoded frame. -/
theorem State.complete_of_smp_ne {s : State} (h : s.complete.smp ≠ s.smp) :
    s.frm.malf = .none ∧ s.complete.resValid = true ∧
      (s.complete.lastRes = .frameOk ∨ s.complete.lastRes = .frameUnknown) := by
  refine ⟨by_contra fun hm => h (by rw [State.complete_of_malf hm]; rfl), ?_⟩
  obtain ⟨smp, cnt, c, e, -, -, -, -, -, -, hsmp, -⟩ := s.complete_spec
  rw [e] at h ⊢
  exact ⟨rfl, hsmp.resolve_left h⟩

/-- A step without reset keeps the Sample, or it completes a read: from a state `u` with the Sample as it was, where, with no
cause set, the byte was one of the body. -/
theorem step_keeps_smp_or_completes {s t : State} (h : step s = .next t) (hr : s.rst.head? ≠ some true) :
    t.smp = s.smp ∨ ∃ u : State, t = u.complete ∧ u.smp = s.smp ∧ (u.frm.malf = .none → s.frm.state = .body) := by
  rcases step_next s t h hr with ⟨hs, rfl | ⟨b, -, hb⟩⟩ | ⟨-, ha, he⟩ | ⟨-, -, -, rfl⟩ |
    ⟨-, -, w, rest, u, -, rfl, rfl | ⟨b, rfl⟩ | rfl | ⟨-, rfl⟩ | ⟨-, rfl⟩⟩
  · exact .inl rfl
  · obtain ⟨f, a, ⟨rfl, -⟩ | ⟨rfl, hbody⟩, -⟩ := State.framerByte_next b _ t (by exact hs) hb
    · exact .inl rfl
    · exact .inr ⟨_, rfl, rfl, hbody⟩
  · obtain ⟨hs, rx, reads, ovf, abd, polls, evs, ⟨rfl, -⟩ | ⟨rfl, -⟩, -⟩ := exec_hstep s.beginStep t ha he
    · exact .inl rfl
    · exact .inl rfl
  all_goals exact .inl rfl

/-- A step without reset changes the Sample within the fields of the type in `PKT_TYPE` after it. -/
theorem step_changedWithin {s t : State} (h : step s = .next t) (hr : s.rst.head? ≠ some true) :
    s.smp.ChangedWithin t.frm.pktType t.smp := by
  obtain hkept | ⟨u, rfl, hu, -⟩ := step_keeps_smp_or_completes h hr
  · rw [hkept]
    exact .refl _ _
  · rw [u.complete_pktType, ← hu]
    exact u.complete_changedWithin

/-- Settles O27: a step that changes the Sample completes a read, and the decoder keeps the fields outside the frame's type. -/
theorem sampleChangesOnlyWithAGoodFrame : Obligations.SampleChangesOnlyWithAGoodFrame := by
  intro s t h hr
  obtain ⟨dbgInt, angles, dbgU16, dbgF32⟩ := step_changedWithin h hr
  refine ⟨dbgInt, fun hne => ?_, angles, dbgU16, dbgF32⟩
  obtain hkept | ⟨u, rfl, hu, hbody⟩ := step_keeps_smp_or_completes h hr
  · exact absurd hkept hne
  · obtain ⟨hmalf, strobe, hres⟩ := State.complete_of_smp_ne (hu ▸ hne)
    exact ⟨strobe, hres, hbody hmalf⟩

end Sys2Proof.Machine
end

/-! The handshake (44_handshake.md): how `HS_START` is answered, what each of its steps does, and that a frame read neither
reads nor writes the session. -/

section
namespace Sys2Proof.Machine

/-! ### Start (R84, R136) -/

/-- Settles O6: an idle block's `HS_START` takes the branch of its `H_STATE`, start or rejection. -/
theorem hsStartStartsOrIsRejected : Obligations.HsStartStartsOrIsRejected := by
  refine ⟨fun d => decodeCmd_append 0b11#2 d, fun d s hb => ⟨fun hh => ?_, fun hh => ?_⟩⟩
  · have he : exec (.hsStart d) s = .next (s.log .hsStart).startHandshake := by simp [exec, execHsStart, hb, hh]
    exact ⟨_, he, rfl, by simp [State.busy, HState.active]⟩
  · have he : exec (.hsStart d) s = .next (s.log .hsStart).raiseRejected := by simp [exec, execHsStart, hb, hh]
    rw [he]
    simp [State.raiseRejected, State.emit, State.log]

/-! ### The steps without an answer and the polls (R137 to R144, R146) -/

/-- Settles O29: each row at its own state is its channel operation and the next state. -/
theorem handshakeStepsWithoutAnswer : Obligations.HandshakeStepsWithoutAnswer := fun _ =>
  ⟨fun h => congrArg Host.Outcome.next (if_pos h), fun h => congrArg Host.Outcome.next (if_pos h),
    fun h => congrArg Host.Outcome.next (if_pos h), fun h => congrArg Host.Outcome.next (if_pos h),
    fun h => congrArg Host.Outcome.next (if_pos h), fun h => congrArg Host.Outcome.next (if_pos h),
    fun h => congrArg Host.Outcome.next (if_pos h)⟩

section
variable {s : State} {v : Bool} {rest : List Bool}

/-- An overflow poll answers the next value of its list (R48). -/
theorem State.chOvf_fst_of_cons (h : s.ovf = v :: rest) : s.chOvf.1 = v := by
  simp [State.chOvf, h]

/-- An auto-baud poll answers the next value of its list (R50). -/
theorem State.chAbd_fst_of_cons (h : s.abd = v :: rest) : s.chAbd.1 = v := by
  simp [State.chAbd, h]

end

/-- An overflow poll, with a listed answer or a free one, takes it off the list and joins it to the trace. -/
theorem State.chOvf_snd (s : State) :
    s.chOvf.2 = { s with ovf := s.ovf.tail, polls := s.chOvf.2.polls, trace := s.trace ++ [.ovf s.chOvf.1] } := by
  unfold State.chOvf
  split <;> rename_i h <;> rw [h] <;> rfl

/-- An auto-baud poll, with a listed answer or a free one, takes it off the list and joins it to the trace. -/
theorem State.chAbd_snd (s : State) :
    s.chAbd.2 = { s with abd := s.abd.tail, polls := s.chAbd.2.polls, trace := s.trace ++ [.abd s.chAbd.1] } := by
  unfold State.chAbd
  split <;> rename_i h <;> rw [h] <;> rfl

/-- Settles O30: each poll's row at its own state is the poll and the next state by its answer. -/
theorem handshakePollsFollowTheAnswer : Obligations.HandshakePollsFollowTheAnswer := by
  refine fun s => ⟨fun h => ⟨s.chOvf.1, fun _ _ => State.chOvf_fst_of_cons, _, congrArg Host.Outcome.next (if_pos h), ?_⟩,
    fun h => ⟨s.chAbd.1, fun _ _ => State.chAbd_fst_of_cons, _, congrArg Host.Outcome.next (if_pos h), ?_⟩⟩
  · rw [s.chOvf_snd]
    rfl
  · rw [s.chAbd_snd]
    rfl

/-! ### The replies (R145, R147 to R149) -/

/-- The lock in the step that received the confirm byte: both events join the trace. -/
theorem State.lock_log (s : State) (r : Byte) :
    (s.log (.rx r)).lock = { s with
      hsm := { s.hsm with locked := true, echo := 0x00#8, echoV := false, state := .locked }, lastRes := .hsLocked,
      resValid := true, trace := s.trace ++ [.rx r, .result .hsLocked] } := by
  simp [State.lock, State.emit, State.log]

/-- The restart in the step that received an unknown first reply: both events join the trace. -/
theorem State.handshakeFailure_log (s : State) (r : Byte) :
    (((s.log (.rx r)).storeEcho r .initClr).log .handshakeFailure) = { s with
      hsm := { s.hsm with echo := r, echoV := true, state := .initClr },
      trace := s.trace ++ [.rx r, .handshakeFailure] } := by
  simp [State.storeEcho, State.log]

section
variable {s : State} {r : Byte}

/-- A first reply that is the confirm byte locks, whatever the other control bytes are. -/
theorem State.rxEchoByte_confirm (h : r = s.ctl.confirm) : s.rxEchoByte r = s.lock := by
  simp [State.rxEchoByte, classify, h]

/-- A first reply that is the fail or the raw baud-lock byte enters the confirm retry loop. -/
theorem State.rxEchoByte_retry (hc : r ≠ s.ctl.confirm) (h : r = s.ctl.fail ∨ r = s.ctl.rawlock) :
    s.rxEchoByte r = s.storeEcho r .rtyTx := by
  simp [State.rxEchoByte, classify, hc, h]

/-- A first reply that is none of the three restarts the handshake, with the internal event of R166. -/
theorem State.rxEchoByte_other (hc : r ≠ s.ctl.confirm) (hf : r ≠ s.ctl.fail) (hr : r ≠ s.ctl.rawlock) :
    s.rxEchoByte r = (s.storeEcho r .initClr).log .handshakeFailure := by
  simp [State.rxEchoByte, classify, hc, hf, hr]

variable {rest : List (Option Byte)} (hx : s.rx = some r :: rest)
include hx

theorem exec_hRxEcho_of_cons (hs : s.hsm.state = .rxEcho) :
    exec .hRxEcho s = .next ((({ s with rx := rest } : State).log (.rx r)).rxEchoByte r) :=
  (if_pos hs).trans (State.onRead_of_cons hx _)

theorem exec_hRtyRx_of_cons (hs : s.hsm.state = .rtyRx) :
    exec .hRtyRx s = .next ((({ s with rx := rest } : State).log (.rx r)).rtyRxByte r) :=
  (if_pos hs).trans (State.onRead_of_cons hx _)

end

/-- Settles O31: the three classes of the byte read. -/
theorem firstReplyIsClassified : Obligations.FirstReplyIsClassified := by
  intro s r rest hs hx
  rw [exec_hRxEcho_of_cons hx hs]
  refine ⟨fun hc => ?_, fun hc hr => ?_, fun hc hf hr => ?_⟩
  · rw [State.rxEchoByte_confirm (by exact hc), State.lock_log]
  · rw [State.rxEchoByte_retry (by exact hc) (by exact hr)]
    rfl
  · rw [State.rxEchoByte_other (by exact hc) (by exact hf) (by exact hr), State.handshakeFailure_log]

/-- Settles O32: the byte read is compared with the confirm byte alone. -/
theorem retryReplyLocksOrResends : Obligations.RetryReplyLocksOrResends := by
  intro s r rest hs hx
  rw [exec_hRtyRx_of_cons hx hs]
  refine ⟨fun hc => ?_, fun hc => congrArg Host.Outcome.next (if_neg hc)⟩
  rw [State.rtyRxByte, if_pos (by exact hc), State.lock_log]

/-! ### The framer and the session (R29, R153) -/

/-- The state with another session in place of its own. -/
def State.withSession (h : Handshake) (s : State) : State := { s with hsm := h }

/-- The outcome with another session in its next state, if it has one. -/
def withSessionOutcome (h : Handshake) : Outcome → Outcome
  | .next t => .next (t.withSession h)
  | .fault r => .fault r
  | .refused r => .refused r

section
variable (h : Handshake) (s : State)

theorem State.withSession_frm : (s.withSession h).frm = s.frm := rfl

theorem withSessionOutcome_next : withSessionOutcome h (.next s) = .next (s.withSession h) := rfl

end

section
variable (h : Handshake) (s : State) (b : Byte)

/-- Decoding a frame does the same with any session. -/
theorem State.decodeFrameAs_withSession (t : Half) :
    (s.withSession h).decodeFrameAs t = (s.decodeFrameAs t).withSession h := by
  unfold State.decodeFrameAs State.decodeAttQ7 State.decodeAttF32 State.decodeDbgU16 State.decodeDbgF32
  simp only [apply_ite (State.withSession h)]
  rfl

/-- Completing a read does the same with any session. -/
theorem State.complete_withSession : (s.withSession h).complete = s.complete.withSession h := by
  unfold State.complete
  simp only [State.decodeFrameAs_withSession, apply_ite (State.withSession h)]
  rfl

/-- Advancing does the same with any session. -/
theorem State.advance_withSession : (s.withSession h).advance = s.advance.withSession h := by
  unfold State.advance
  simp only [State.complete_withSession, apply_ite (State.withSession h)]
  rfl

/-- A header byte does the same with any session. -/
theorem State.headerByte_withSession : (s.withSession h).headerByte b = (s.headerByte b).withSession h := by
  unfold State.headerByte
  simp only [State.validateHeader_eq, apply_ite (State.withSession h)]
  rfl

/-- The second length byte does the same with any session. -/
theorem State.len1Byte_withSession : (s.withSession h).len1Byte b = (s.len1Byte b).withSession h := by
  by_cases hp : s.frm.pktNBytes.extractLsb' 8 8 ++ b = 0#16
  · rw [State.len1Byte_zero rfl hp, State.len1Byte_zero (s := s.withSession h) rfl hp]
    rfl
  · rw [State.len1Byte_ne_zero rfl hp, State.len1Byte_ne_zero (s := s.withSession h) rfl hp]
    rfl

/-- A body byte does the same with any session, the two faults included. -/
theorem State.bodyByte_withSession : (s.withSession h).bodyByte b = withSessionOutcome h (s.bodyByte b) := by
  unfold State.bodyByte
  simp only [apply_ite (withSessionOutcome h), withSessionOutcome_next, ← State.advance_withSession,
    ← State.headerByte_withSession]
  rfl

/-- A received byte does the same with any session, in every state of the framer. -/
theorem State.framerByte_withSession : (s.withSession h).framerByte b = withSessionOutcome h (s.framerByte b) := by
  unfold State.framerByte
  rw [State.withSession_frm]
  cases s.frm.state with
  | idle => rfl
  | len0 => rfl
  | len1 => exact congrArg Host.Outcome.next (s.len1Byte_withSession h b)
  | body => exact s.bodyByte_withSession h b

/-- Reading the channel does the same with any session, if what is done with the byte does. -/
theorem State.onRead_withSession {k : Byte → State → Outcome}
    (hk : ∀ b t, k b (t.withSession h) = withSessionOutcome h (k b t)) :
    (s.withSession h).onRead k = withSessionOutcome h (s.onRead k) := by
  have hsame : (s.withSession h).rxAnswer 0 = s.rxAnswer 0 := State.rxAnswer_congr _ _ 0 rfl rfl
  cases hx : s.rxAnswer 0 with
  | none =>
    rw [State.onRead_of_none _ k hx, State.onRead_of_none _ k (hsame.trans hx)]
    rfl
  | some b =>
    rw [State.onRead_of_byte _ k b hx, State.onRead_of_byte _ k b (hsame.trans hx)]
    exact hk b (s.rxTake.log (.rx b))

end

/-- The step of a read in flight is the framer's, on the byte it reads (R103). -/
theorem step_of_framer {s : State} (hf : s.frm.state ≠ .idle) (hr : s.rst.head? ≠ some true) :
    step s = s.beginStep.onRead fun b t => t.framerByte b := by
  rw [← exec_framer s.beginStep hf]
  simp [step, State.fetch, s.rstNow_false hr, hf]

/-- The step of a read in flight does the same with any session. -/
theorem step_withSession (h : Handshake) {s : State} (hf : s.frm.state ≠ .idle) (hr : s.rst.head? ≠ some true) :
    step (s.withSession h) = withSessionOutcome h (step s) := by
  rw [step_of_framer hf hr, step_of_framer (s := s.withSession h) hf hr]
  exact s.beginStep.onRead_withSession h fun b t => t.framerByte_withSession h b

/-- Settles O48: a read's step does the same with any session, and that it does so with the one in place is that it leaves it. -/
theorem framerIgnoresTheSession : Obligations.FramerIgnoresTheSession := by
  intro s t h hf hr hstep
  have same (h : Handshake) : step (s.withSession h) = .next (t.withSession h) := by
    rw [step_withSession h hf hr, hstep, withSessionOutcome_next]
  have kept : t = t.withSession s.hsm := Host.Outcome.next.inj (hstep.symm.trans (same s.hsm))
  exact ⟨(congrArg State.hsm kept).trans rfl, same h⟩

end Sys2Proof.Machine
end

/-! Exceptions (60_exceptions.md): the reserved results, the polls, and the frames that are not well-formed. -/

section
namespace Sys2Proof.Machine

/-! ### The reserved results (R168, R169) -/

/-- A step without reset that completes a command leaves no reserved result in `LAST_RES`, nor `RES_NONE`. -/
theorem step_emits_unreserved {s t : State} (h : step s = .next t) (hr : s.rst.head? ≠ some true) (hv : t.resValid = true) :
    t.lastRes.reserved = false ∧ t.lastRes ≠ .none := by
  rcases step_next s t h hr with ⟨hf, rfl | ⟨b, -, hb⟩⟩ | ⟨-, ha, he⟩ | ⟨-, -, -, rfl⟩ |
    ⟨-, -, w, rest, u, -, rfl, rfl | ⟨b, rfl⟩ | rfl | ⟨-, rfl⟩ | ⟨-, rfl⟩⟩
  · cases hv
  · obtain ⟨f, a, ⟨rfl, -⟩ | ⟨rfl, -⟩, -⟩ := State.framerByte_next b _ t (by exact hf) hb
    · cases hv
    · obtain ⟨smp, cnt, c, e, -, hres, hnone, -⟩ := State.complete_spec _
      rw [e]
      exact ⟨hres, hnone⟩
  · obtain ⟨hs, rx, reads, ovf, abd, polls, evs, ⟨rfl, -⟩ | ⟨rfl, -⟩, -⟩ := exec_hstep s.beginStep t ha he
    · cases hv
    · exact ⟨rfl, nofun⟩
  · cases hv
  · exact ⟨rfl, nofun⟩
  · exact ⟨rfl, nofun⟩
  · cases hv
  · cases hv
  · exact ⟨rfl, nofun⟩

/-- Settles O40: a result a step adds is the one it leaves in `LAST_RES`, and a reset adds none. -/
theorem reservedResultsAreNeverEmitted : Obligations.ReservedResultsAreNeverEmitted := by
  refine ⟨fun _ => ⟨rfl, rfl⟩, fun s t c h hc => ?_⟩
  by_cases hr : s.rst.head? = some true
  · obtain rfl := Host.Outcome.next.inj ((step_of_reset hr).symm.trans h)
    simp at hc
  · obtain ⟨-, -, emits⟩ := lastResChangesOnlyOnCompletion s t h hr
    obtain ⟨hv, rfl⟩ := emits c hc
    obtain ⟨hres, hnone⟩ := step_emits_unreserved h hr hv
    exact ⟨ne_of_apply_ne ResCode.reserved (by rw [hres]; decide), ne_of_apply_ne ResCode.reserved (by rw [hres]; decide), hnone⟩

/-! ### The polls (R170, R195) -/

/-- What a function of the next state makes of an outcome. -/
def mapOutcome (g : State → State) : Outcome → Outcome
  | .next t => .next (g t)
  | .fault r => .fault r
  | .refused r => .refused r

theorem mapOutcome_mapOutcome (g k : State → State) (o : Outcome) :
    mapOutcome g (mapOutcome k o) = mapOutcome (fun t => g (k t)) o := by
  cases o <;> rfl

/-- The state `r` with what a received byte of a frame is about in it taken from `s`: the Frame and Sample registers, the sum,
the result and the trace. -/
def State.graft (r s : State) : State :=
  { r with frm := s.frm, cse := s.cse, smp := s.smp, lastRes := s.lastRes, resValid := s.resValid, trace := s.trace }

section
variable (r s : State) (b : Byte)

theorem State.graft_frm : (r.graft s).frm = s.frm := rfl

/-- Decoding a frame neither reads nor writes the rest of the state. -/
theorem State.decodeFrameAs_graft (t : Half) : (r.graft s).decodeFrameAs t = r.graft (s.decodeFrameAs t) := by
  unfold State.decodeFrameAs State.decodeAttQ7 State.decodeAttF32 State.decodeDbgU16 State.decodeDbgF32
  simp only [apply_ite r.graft]
  rfl

/-- Nor does completing a read. -/
theorem State.complete_graft : (r.graft s).complete = r.graft s.complete := by
  unfold State.complete
  simp only [State.decodeFrameAs_graft, apply_ite r.graft]
  rfl

/-- Nor does advancing. -/
theorem State.advance_graft : (r.graft s).advance = r.graft s.advance := by
  unfold State.advance
  simp only [State.complete_graft, apply_ite r.graft]
  rfl

/-- Nor does a header byte. -/
theorem State.headerByte_graft : (r.graft s).headerByte b = r.graft (s.headerByte b) := by
  unfold State.headerByte
  simp only [State.validateHeader_eq, apply_ite r.graft]
  rfl

/-- Nor does the second length byte. -/
theorem State.len1Byte_graft : (r.graft s).len1Byte b = r.graft (s.len1Byte b) := by
  by_cases hp : s.frm.pktNBytes.extractLsb' 8 8 ++ b = 0#16
  · rw [State.len1Byte_zero rfl hp, State.len1Byte_zero (s := r.graft s) rfl hp]
    rfl
  · rw [State.len1Byte_ne_zero rfl hp, State.len1Byte_ne_zero (s := r.graft s) rfl hp]
    rfl

/-- Nor does a body byte. -/
theorem State.bodyByte_graft : (r.graft s).bodyByte b = mapOutcome r.graft (s.bodyByte b) := by
  have next (t : State) : mapOutcome r.graft (.next t) = .next (r.graft t) := rfl
  unfold State.bodyByte
  simp only [apply_ite (mapOutcome r.graft), next, ← State.advance_graft, ← State.headerByte_graft]
  rfl

/-- Nor does a received byte in any state of the framer. -/
theorem State.framerByte_graft : (r.graft s).framerByte b = mapOutcome r.graft (s.framerByte b) := by
  unfold State.framerByte
  rw [State.graft_frm]
  cases s.frm.state with
  | idle => rfl
  | len0 => rfl
  | len1 => exact congrArg Host.Outcome.next (r.len1Byte_graft s b)
  | body => exact r.bodyByte_graft s b

end

/-- The state with other answers to the polls in the channel's lists. -/
def State.withPolls (o a : List Bool) (s : State) : State := { s with ovf := o, abd := a }

section
variable (o a : List Bool) (s : State)

/-- A received byte does the same with any answers to the polls. -/
theorem State.framerByte_withPolls (b : Byte) :
    (s.withPolls o a).framerByte b = mapOutcome (State.withPolls o a) (s.framerByte b) := by
  have own : s.framerByte b = mapOutcome s.graft (s.framerByte b) := s.framerByte_graft s b
  rw [own, mapOutcome_mapOutcome]
  exact (s.withPolls o a).framerByte_graft s b

/-- A first reply is classified with no poll. -/
theorem State.rxEchoByte_withPolls (r : Byte) : (s.withPolls o a).rxEchoByte r = (s.rxEchoByte r).withPolls o a := by
  unfold State.rxEchoByte
  dsimp only [State.withPolls]
  split <;> rfl

/-- A reply in the confirm retry loop is compared with no poll. -/
theorem State.rtyRxByte_withPolls (r : Byte) : (s.withPolls o a).rtyRxByte r = (s.rtyRxByte r).withPolls o a := by
  unfold State.rtyRxByte
  rw [apply_ite (State.withPolls o a)]
  rfl

/-- Reading the channel does the same with any answers to the polls, if what is done with the byte does. -/
theorem State.onRead_withPolls {k : Byte → State → Outcome}
    (hk : ∀ b t, k b (t.withPolls o a) = mapOutcome (State.withPolls o a) (k b t)) :
    (s.withPolls o a).onRead k = mapOutcome (State.withPolls o a) (s.onRead k) := by
  have hsame : (s.withPolls o a).rxAnswer 0 = s.rxAnswer 0 := State.rxAnswer_congr _ _ 0 rfl rfl
  rcases s.onRead_cases k with ⟨b, hb, e⟩ | ⟨hn, e⟩
  · rw [e, State.onRead_of_byte _ k b (hsame.trans hb)]
    exact hk b (s.rxTake.log (.rx b))
  · rw [e, State.onRead_of_none _ k (hsame.trans hn)]
    rfl

/-- A row that does something under a condition only does the same with any answers to the polls, if what it does there does. -/
theorem next_ite_withPolls {c : Prop} [Decidable c] {t u t' u' : State} (ht : t' = t.withPolls o a)
    (hu : u' = u.withPolls o a) :
    .next (if c then t' else u') = mapOutcome (State.withPolls o a) (.next (if c then t else u)) := by
  rw [ht, hu, ← apply_ite (State.withPolls o a)]
  rfl

/-- A command does the same with any answers to the polls. -/
theorem exec_cmd_withPolls (w : CmdWord) :
    exec (decodeCmd w) (s.withPolls o a) = mapOutcome (State.withPolls o a) (exec (decodeCmd w) s) := by
  obtain ⟨d, h | h | h | h⟩ := decodeCmd_cases w <;> rw [h]
  · exact next_ite_withPolls o a rfl rfl
  · exact next_ite_withPolls o a rfl rfl
  · exact next_ite_withPolls o a rfl rfl
  · exact next_ite_withPolls o a rfl (by rw [apply_ite (State.withPolls o a)]; rfl)

/-- A step of a handshake in flight outside the two polling states does the same with any answers to the polls. -/
theorem exec_hstep_withPolls (ha : s.hsm.state.active = true) (hovf : s.hsm.state ≠ .chkOvf)
    (habd : s.hsm.state ≠ .chkAbd) :
    exec (hstepRow s.hsm.state) (s.withPolls o a) = mapOutcome (State.withPolls o a) (exec (hstepRow s.hsm.state) s) := by
  rw [hstepRow_eq]
  cases hh : s.hsm.state with
  | idle | locked => simp [hh, HState.active] at ha
  | chkOvf => exact absurd hh hovf
  | chkAbd => exact absurd hh habd
  | initClr | initEn | txInit | flush | disAbd | txConf | rtyTx => exact next_ite_withPolls o a rfl rfl
  | rxEcho =>
    refine (if_pos hh).trans (.trans ?_ (congrArg _ (if_pos hh).symm))
    exact s.onRead_withPolls o a fun r t => congrArg Host.Outcome.next (t.rxEchoByte_withPolls o a r)
  | rtyRx =>
    refine (if_pos hh).trans (.trans ?_ (congrArg _ (if_pos hh).symm))
    exact s.onRead_withPolls o a fun r t => congrArg Host.Outcome.next (t.rtyRxByte_withPolls o a r)

end

/-- The step of a handshake in flight runs its row. -/
theorem step_of_handshake {s : State} (hf : s.frm.state = .idle) (ha : s.hsm.state.active = true)
    (hr : s.rst.head? ≠ some true) : step s = exec (hstepRow s.hsm.state) s.beginStep := by
  simp [step, State.fetch, s.rstNow_false hr, hf, ha]

/-- The step of an idle block with no command at the port changes no register. -/
theorem step_of_rest {s : State} (hf : s.frm.state = .idle) (ha : s.hsm.state.active = false) (hc : s.cmds = [])
    (hr : s.rst.head? ≠ some true) : step s = .next s.beginStep := by
  rw [← exec_rest s.beginStep ha hc]
  simp [step, State.fetch, s.rstNow_false hr, hf, ha, hc]

/-- A step outside the two polling states, reset included, does the same with any answers to the polls. -/
theorem step_withPolls (o a : List Bool) {s : State}
    (hs : s.frm.state ≠ .idle ∨ s.hsm.state ≠ .chkOvf ∧ s.hsm.state ≠ .chkAbd) :
    step (s.withPolls o a) = mapOutcome (State.withPolls o a) (step s) := by
  by_cases hr : s.rst.head? = some true
  · rw [step_of_reset hr, step_of_reset (s := s.withPolls o a) hr]
    rfl
  by_cases hf : s.frm.state = .idle
  · cases ha : s.hsm.state.active with
    | true =>
      obtain ⟨hovf, habd⟩ := hs.resolve_left (not_not_intro hf)
      rw [step_of_handshake hf ha hr, step_of_handshake (s := s.withPolls o a) hf ha hr]
      exact exec_hstep_withPolls o a s.beginStep ha hovf habd
    | false =>
      cases hc : s.cmds with
      | nil =>
        rw [step_of_rest hf ha hc hr, step_of_rest (s := s.withPolls o a) hf ha hc hr]
        rfl
      | cons w rest =>
        have hb : s.busy = false := s.busy_eq_false_iff.mpr ⟨hf, ha⟩
        rw [step_of_command hb hc hr, step_of_command (s := s.withPolls o a) hb hc hr]
        exact exec_cmd_withPolls o a { s.beginStep with cmds := rest } w
  · rw [step_of_framer hf hr, step_of_framer (s := s.withPolls o a) hf hr]
    exact s.beginStep.onRead_withPolls o a fun b t => t.framerByte_withPolls o a b

/-- Settles O49: outside the two polling states a step does the same with any answers to the polls, and that it does so with the
ones in place is that it takes none. -/
theorem pollsOnlyInTheirStates : Obligations.PollsOnlyInTheirStates := by
  intro s t o a h hs
  have same (o a : List Bool) : step (s.withPolls o a) = .next (t.withPolls o a) := by
    rw [step_withPolls o a hs, h]
    rfl
  have kept : t = t.withPolls s.ovf s.abd := Host.Outcome.next.inj (h.symm.trans (same s.ovf s.abd))
  exact ⟨(congrArg State.ovf kept).trans rfl, (congrArg State.abd kept).trans rfl, same o a⟩

/-! ### The run of the framer over a frame (R90, R103) -/

/-- The two bytes of a 16-bit field, put together again (R41, R62). -/
theorem hiByte_append_loByte (v : Half) : hiByte v ++ loByte v = v := by
  unfold hiByte loByte
  rw [BitVec.extractLsb'_append_extractLsb'_eq_extractLsb' (by rfl)]
  exact BitVec.extractLsb'_eq_self

/-- The first byte of a 16-bit field is its high byte (R62). -/
theorem high_of_append (hi lo : Byte) : (hi ++ lo : Half).extractLsb' 8 8 = hi :=
  BitVec.extractLsb'_append_eq_left

/-- A run over received bytes takes the first one in the framer's step and goes on from there. -/
theorem State.feed_cons {s t : State} {b : Byte} {bs : List Byte} (hs : s.frm.state ≠ .idle)
    (h : (s.log (.rx b)).framerByte b = .next t) : s.feed (b :: bs) = t.feed bs := by
  simp [State.feed, hs, h]

/-- The field of the two bytes of a body from index `i` on, zero for a byte that is not there (R63, R94). -/
def bodyField (body : List Byte) (i : Nat) : Half := body.getD i 0x00#8 ++ body.getD (i + 1) 0x00#8

/-- The cause `F_MALF` holds once the body bytes `body` of a frame of length `p` have arrived: R93 on `P`, and R95 on the whole
header. -/
def frameCause (p : Half) (body : List Byte) : Malf :=
  if p.toNat < 4 then .hdrTrunc
  else if body.length < 4 then .none
  else (validate p (bodyField body 2)).getD .none

/-- The state `s` of a started read in the body of a frame of length `p`, with the body bytes `body` recorded and `i` in
`F_IDX`. -/
def State.recorded (s : State) (p : Half) (body : List Byte) (i : Nat) : State :=
  { s with
    frm := { s.frm with
      pktNBytes := p, pktType := bodyField body 0, bufNBytes := bodyField body 2, malf := frameCause p body,
      state := .body, idx := BitVec.ofNat 16 i }
    trace := s.trace ++ (hiByte p :: loByte p :: body).map .rx }

/-- Bytes after the header change no field of it. -/
theorem bodyField_append {body : List Byte} {i : Nat} (rest : List Byte) (h : i + 1 < body.length) :
    bodyField (body ++ rest) i = bodyField body i := by
  rw [bodyField, List.getD_append _ _ _ _ (by omega), List.getD_append _ _ _ _ h, bodyField]

/-- Bytes after the header do not change the cause. -/
theorem frameCause_append {p : Half} {body : List Byte} (rest : List Byte) (h : 4 ≤ body.length) :
    frameCause p (body ++ rest) = frameCause p body := by
  have hlen : 4 ≤ (body ++ rest).length := h.trans (List.length_append ▸ Nat.le_add_right ..)
  simp only [frameCause, bodyField_append rest h, hlen.not_gt, h.not_gt]

/-- A frame that is not well-formed has a cause, by its length or by R95's validation (R64). -/
theorem frameCause_of_not_wellFormed {p b : Half} {body : List Byte} (hlen : body.length = p.toNat)
    (hb : b = bodyField body 2) (hwf : ¬ (4 ≤ p.toNat ∧ b.toNat ≤ 50 ∧ p.toNat = b.toNat + 5)) :
    frameCause p body = if p.toNat < 4 then .hdrTrunc else if 50 < b.toNat then .capacity
      else if p.toNat < b.toNat + 5 then .overrun else .slack := by
  unfold frameCause validate
  rw [hlen, ← hb]
  split_ifs
  · rfl
  · rfl
  · rfl
  · rfl
  · omega

section
variable {s : State} {p : Half} {body : List Byte}

theorem State.recorded_idx {i : Nat} (hi : i < p.toNat) : (s.recorded p body i).frm.idx.toNat = i :=
  Nat.mod_eq_of_lt (hi.trans p.isLt)

/-- A byte of the header is recorded (R94), the last one with the validation of what it completes (R95). -/
theorem State.headerByte_recorded (b : Byte) (hd : body.length ≤ 3) (hp : body.length < p.toNat) :
    ((s.recorded p body body.length).log (.rx b)).headerByte b = s.recorded p (body ++ [b]) body.length := by
  match body, hd with
  | [], _ =>
    rw [State.headerByte_zero b rfl]
    simp [State.recorded, bodyField, frameCause]
  | [x], _ =>
    rw [State.headerByte_one b rfl]
    simp [State.recorded, bodyField, frameCause, high_of_append]
  | [x, y], _ =>
    rw [State.headerByte_two b rfl]
    simp [State.recorded, bodyField, frameCause]
  | [x, y, z], _ =>
    rw [State.headerByte_three b rfl rfl]
    have hp : ¬ p.toNat < 4 := Nat.not_lt.mpr hp
    simp [State.recorded, bodyField, frameCause, high_of_append, hp]

/-- Of a byte after the header the trace alone has a record. -/
theorem State.recorded_drain (b : Byte) (hd : 4 ≤ body.length) (i : Nat) :
    (s.recorded p body i).log (.rx b) = s.recorded p (body ++ [b]) i := by
  simp [State.recorded, State.log, frameCause_append [b] hd, bodyField_append [b] (i := 2) hd,
    bodyField_append [b] (i := 0) (show 1 < body.length by omega)]

/-- A body byte of a frame that is not well-formed is recorded, and the read advances: in the header as in any frame, after it
with nothing stored (R98). -/
theorem State.bodyByte_recorded (b : Byte) (hp : body.length < p.toNat)
    (hm : 4 ≤ body.length → frameCause p body ≠ .none) :
    ((s.recorded p body body.length).log (.rx b)).bodyByte b = .next (s.recorded p (body ++ [b]) body.length).advance := by
  have hidx := State.recorded_idx (s := s) (body := body) hp
  by_cases hd : body.length ≤ 3
  · exact State.bodyByte_header (hidx.trans_le hd) (State.headerByte_recorded b hd hp)
  · have hd : 4 ≤ body.length := by omega
    rw [State.bodyByte_drain b (by exact hd.trans_eq hidx.symm) (by exact hm hd), State.recorded_drain b hd]

/-- Where more of the body follows, advancing goes on to the byte after the recorded ones (R99). -/
theorem State.recorded_advance {b : Byte} (h : body.length + 1 < p.toNat) :
    (s.recorded p (body ++ [b]) body.length).advance = s.recorded p (body ++ [b]) (body ++ [b]).length := by
  have hidx := State.recorded_idx (s := s) (body := body ++ [b]) (Nat.lt_of_succ_lt h)
  rw [State.advance_of_ne (by rw [hidx]; exact h.ne)]
  simp [State.recorded, BitVec.ofNat_add]

/-- The rest of the body of a frame that is not well-formed: each byte is recorded, and the last one ends the read. -/
theorem State.feed_recorded (rest : List Byte) (hrest : rest ≠ []) (hlen : body.length + rest.length = p.toNat)
    (hm : frameCause p (body ++ rest) ≠ .none) :
    (s.recorded p body body.length).feed rest =
      .next ((s.recorded p (body ++ rest) (p.toNat - 1)).finishFrame .malformed) := by
  induction rest generalizing body with
  | nil => exact absurd rfl hrest
  | cons b rest ih =>
    rw [List.length_cons] at hlen
    have hp : body.length < p.toNat := by omega
    have hbyte := State.bodyByte_recorded (s := s) b hp fun hd => frameCause_append (b :: rest) hd ▸ hm
    rw [State.feed_cons (s := s.recorded p body body.length) nofun hbyte]
    rw [List.append_cons body b rest] at hm ⊢
    cases rest with
    | nil =>
      rw [List.append_nil] at hm ⊢
      rw [State.advance_of_eq (by rw [State.recorded_idx hp]; exact hlen), State.complete_of_malf hm, ← hlen]
      rfl
    | cons c rest =>
      rw [List.length_cons] at hlen
      rw [State.recorded_advance (by omega)]
      exact ih (List.cons_ne_nil c rest) (by rw [List.length_append, List.length_singleton, List.length_cons]; omega) hm

end

section
variable {s : State} {p : Half} {body : List Byte} (hs : s.readStarted)
include hs

/-- The registers of a started read, with a name for the bytes of `PAY`, which it does not touch (R91). -/
theorem State.readStarted.frm : ∃ pay, s.frm = {
    pktNBytes := 0#16, pktType := 0#16, bufNBytes := 0#16, pay := pay, payLen := 0#6, rxCsum := 0#8, malf := .none,
    state := .len0, idx := 0#16 } :=
  ⟨_, hs.1⟩

/-- The length field, from the start of a read: the step of its second byte sees the first one in `PKT_NBYTES` (R92). -/
theorem State.feed_length : s.feed (hiByte p :: loByte p :: body) =
    ((((s.log (.rx (hiByte p))).len0Byte (hiByte p)).log (.rx (loByte p))).len1Byte (loByte p)).feed body := by
  obtain ⟨pay, hfrm⟩ := hs.frm
  have hfirst : (s.log (.rx (hiByte p))).framerByte (hiByte p) = .next ((s.log (.rx (hiByte p))).len0Byte (hiByte p)) := by
    simp [State.framerByte, hfrm]
  rw [State.feed_cons (by simp [hfrm]) hfirst]
  exact State.feed_cons nofun rfl

/-- With `P` not 0 the body follows, with nothing of it recorded. -/
theorem State.feed_length_ne_zero (h0 : p ≠ 0#16) :
    s.feed (hiByte p :: loByte p :: body) = (s.recorded p [] 0).feed body := by
  obtain ⟨pay, hfrm⟩ := hs.frm
  rw [State.feed_length hs, State.len1Byte_ne_zero (by simp [beHalf, high_of_append, hiByte_append_loByte]) h0]
  simp [State.recorded, State.log, hfrm, frameCause, bodyField]

/-- With `P = 0` there is no body, and the read ends. -/
theorem State.feed_length_zero (h0 : p = 0#16) :
    s.feed [hiByte p, loByte p] = .next ((s.recorded p [] 0).finishFrame .malformed) := by
  obtain ⟨pay, hfrm⟩ := hs.frm
  rw [State.feed_length hs, State.len1Byte_zero (by simp [beHalf, high_of_append, hiByte_append_loByte]) h0]
  simp [State.feed, State.recorded, State.finishFrame, State.emit, State.log, hfrm, h0, frameCause, bodyField]

/-- The whole of a frame that is not well-formed, from the start of a read. -/
theorem State.feed_malformed (hlen : body.length = p.toNat) (hm : frameCause p body ≠ .none) :
    s.feed (hiByte p :: loByte p :: body) = .next ((s.recorded p body (p.toNat - 1)).finishFrame .malformed) := by
  by_cases h0 : p = 0#16
  · obtain rfl : body = [] := List.length_eq_zero_iff.mp (by rw [hlen, h0]; rfl)
    simpa [h0] using State.feed_length_zero hs h0
  · have hbody : body ≠ [] := by
      rintro rfl
      exact h0 (BitVec.eq_of_toNat_eq hlen.symm)
    rw [State.feed_length_ne_zero hs h0]
    exact State.feed_recorded body hbody (by rw [List.length_nil, Nat.zero_add, hlen]) hm

end

/-- Settles O16: the cause of a frame that is not well-formed is set by the end of its header, before anything else of it could
be stored. -/
theorem malformedFrameStoresNothing : Obligations.MalformedFrameStoresNothing := by
  rintro s p t b body hs hlen rfl hb hwf
  have hcause := frameCause_of_not_wellFormed hlen hb hwf
  have hm : frameCause p body ≠ .none := by
    rw [hcause]
    split_ifs <;> nofun
  have he : exec (.frame p body) s = .next ((s.recorded p body (p.toNat - 1)).finishFrame .malformed) :=
    (if_pos (congrArg Framer.state hs.1)).trans (State.feed_malformed hs hlen hm)
  refine ⟨_, he, ?_, congrArg Framer.payLen hs.1, congrArg Framer.rxCsum hs.1, rfl, rfl, rfl, rfl, rfl, rfl, rfl⟩
  rw [← hcause, hb]
  rfl

end Sys2Proof.Machine
end

/-! Reset and hazards (70_reset_and_hazards.md): reset takes precedence over whatever is in flight, and only reset ends the
locked session. -/

section
namespace Sys2Proof.Machine

/-! ### Reset (R185, R187, R188) -/

/-- Settles O2: the step is the reset, which writes every register and nothing of the environment's side. -/
theorem resetEndsAnyCommand : Obligations.ResetEndsAnyCommand := fun _ hr =>
  ⟨_, step_of_reset hr, rfl, rfl, rfl, rfl, rfl, rfl, rfl, fun _ => rfl, rfl, rfl, rfl, rfl, rfl, rfl, rfl, rfl, rfl, rfl,
    rfl, rfl, rfl⟩

/-! ### The locked session (R150, R202) -/

/-- In `H_LOCKED` an accepted command keeps the session: `HS_START`, the one command that starts a session, is rejected (R84). -/
theorem exec_cmd_keeps_hsm_of_locked (w : CmdWord) {s : State} (hb : s.busy = false) (hl : s.hsm.state = .locked) :
    ∃ t, exec (decodeCmd w) s = .next t ∧ t.hsm = s.hsm := by
  rcases exec_cmd w s hb with e | ⟨b, e⟩ | e | ⟨hne, -⟩ | ⟨-, e⟩
  case inr.inr.inr.inl => exact absurd hl hne
  all_goals exact ⟨_, e, rfl⟩

/-- Settles O35: in `H_LOCKED` the step is a read's, which leaves the session, a command's, or a rest. -/
theorem lockedUntilReset : Obligations.LockedUntilReset := by
  intro s t h hr hl
  by_cases hf : s.frm.state = .idle
  · have ha : s.hsm.state.active = false := by rw [hl]; rfl
    have hb : s.busy = false := s.busy_eq_false_iff.mpr ⟨hf, ha⟩
    cases hc : s.cmds with
    | nil =>
      rw [step_of_rest hf ha hc hr] at h
      obtain rfl := Host.Outcome.next.inj h
      rfl
    | cons w rest =>
      obtain ⟨u, he, hu⟩ := exec_cmd_keeps_hsm_of_locked w (s := { s.beginStep with cmds := rest }) hb hl
      rw [step_of_command hb hc hr, he] at h
      obtain rfl := Host.Outcome.next.inj h
      exact hu
  · obtain ⟨kept, -⟩ := framerIgnoresTheSession s t s.hsm hf hr h
    exact kept

end Sys2Proof.Machine
end

/-! The encodings (30_encoding.md): in every space the decoder and the encoder undo each other. -/

section
namespace Sys2Proof.Machine

/-- The instruction `i` is a well-formed one of the space `sp`, and `bytes` is its encoding. -/
structure EncodedAs (c : CtrlBytes) (sp : Space) (i : Instr) (bytes : List Byte) : Prop where
  space : i.space = sp
  wf : i.wf c = true
  encoding : encode c i = bytes

/-! ### Command words (R67) -/

/-- The two bytes of a command word are its 10 bits below six zero bits. -/
theorem toNat_beHalf_cmd (op : BitVec 2) (d : Byte) : (beHalf (op.zeroExtend 8) d).toNat = (op ++ d).toNat := by
  rw [beHalf, toNat_append_eq_add, toNat_append_eq_add, BitVec.toNat_setWidth, Nat.mod_eq_of_lt (by omega)]

/-- Decoding the bytes of a command word is decoding the word. -/
theorem decode_encodeCmd (c : CtrlBytes) (op : BitVec 2) (d : Byte) (rest : List Byte) :
    decode c .cmd (encodeCmd op d ++ rest) = .ok (decodeCmd (op ++ d)) rest := by
  have hlt : (op ++ d).toNat < 1024 := (op ++ d).isLt
  refine (if_pos ((toNat_beHalf_cmd op d).trans_lt hlt)).trans ?_
  rw [toNat_beHalf_cmd, BitVec.ofNat_toNat, BitVec.setWidth_eq]
  rfl

/-- The command of a word has the bytes of that word. -/
theorem decodeCmd_encodedAs (c : CtrlBytes) (op : BitVec 2) (d : Byte) :
    EncodedAs c .cmd (decodeCmd (op ++ d)) (encodeCmd op d) := by
  rw [decodeCmd_append]
  split_ifs with h0 h1 h2
  · exact ⟨rfl, rfl, by rw [h0]; rfl⟩
  · exact ⟨rfl, rfl, by rw [h1]; rfl⟩
  · exact ⟨rfl, rfl, by rw [h2]; rfl⟩
  · have h3 : op = 0b11#2 := by bv_omega
    exact ⟨rfl, rfl, by rw [h3]; rfl⟩

/-- The first byte of a field below 1024 is an opcode below six zero bits. -/
theorem exists_opcode {hi lo : Byte} (h : (beHalf hi lo).toNat < 1024) : ∃ op : BitVec 2, op.zeroExtend 8 = hi := by
  rw [beHalf, toNat_append_eq_add] at h
  exact ⟨BitVec.ofNat 2 hi.toNat, by bv_omega⟩

/-- The command word at the head of a byte sequence, and the rest, are that sequence. -/
theorem decode_cmd_encodedAs {c : CtrlBytes} {hi lo : Byte} {tail rest : List Byte} {i : Instr}
    (h : decode c .cmd (hi :: lo :: tail) = .ok i rest) :
    ∃ head, EncodedAs c .cmd i head ∧ head ++ rest = hi :: lo :: tail := by
  by_cases hlt : (beHalf hi lo).toNat < 1024
  · obtain ⟨op, rfl⟩ := exists_opcode hlt
    obtain ⟨rfl, rfl⟩ := Decoded.ok.inj ((decode_encodeCmd c op lo tail).symm.trans h)
    exact ⟨_, decodeCmd_encodedAs c op lo, rfl⟩
  · simp [decode, hlt] at h

/-! ### Packet types, control characters and frames (R61, R65, R66) -/

/-- The two bytes of the field they make up (R62). -/
theorem bytes_beHalf (hi lo : Byte) : [hiByte (beHalf hi lo), loByte (beHalf hi lo)] = [hi, lo] := by
  rw [hiByte, loByte, beHalf, BitVec.extractLsb'_append_eq_left, BitVec.extractLsb'_append_eq_right]

/-- The packet type of a code has the bytes of that code. -/
theorem decodePType_encodedAs (c : CtrlBytes) (t : Half) : EncodedAs c .ptype (decodePType t) [hiByte t, loByte t] := by
  unfold decodePType
  split_ifs with h1 h2 h11 h12
  · exact ⟨rfl, rfl, by rw [h1]; rfl⟩
  · exact ⟨rfl, rfl, by rw [h2]; rfl⟩
  · exact ⟨rfl, rfl, by rw [h11]; rfl⟩
  · exact ⟨rfl, rfl, by rw [h12]; rfl⟩
  · exact ⟨rfl, by simp [Instr.wf, definedType, h1, h2, h11, h12], rfl⟩

/-- A type that is none of the four decodes as itself. -/
theorem decodePType_of_not_defined {t : Half} (h : definedType t = false) : decodePType t = .ptUnknown t := by
  simp only [definedType, Bool.or_eq_false_iff, beq_eq_false_iff_ne] at h
  obtain ⟨⟨⟨h1, h2⟩, h11⟩, h12⟩ := h
  simp [decodePType, h1, h2, h11, h12]

/-- R6, pair by pair. -/
theorem distinct_iff (c : CtrlBytes) : c.distinct = true ↔ c.init ≠ c.confirm ∧ c.init ≠ c.fail ∧
    c.init ≠ c.rawlock ∧ c.confirm ≠ c.fail ∧ c.confirm ≠ c.rawlock ∧ c.fail ≠ c.rawlock := by
  simp [CtrlBytes.distinct, and_assoc]

/-- R66, byte by byte. -/
theorem named_eq_false_iff (c : CtrlBytes) (v : Byte) :
    c.named v = false ↔ v ≠ c.init ∧ v ≠ c.confirm ∧ v ≠ c.fail ∧ v ≠ c.rawlock := by
  simp [CtrlBytes.named, and_assoc]

section
variable {c : CtrlBytes} (hc : c.distinct = true)
include hc

/-- The control character of a byte has that byte (R6, R66). -/
theorem decodeCtrl_encodedAs (v : Byte) : EncodedAs c .ctrl (decodeCtrl c v) [v] := by
  unfold decodeCtrl
  split_ifs with h1 h2 h3 h4
  · exact ⟨rfl, hc, by rw [h1]; rfl⟩
  · exact ⟨rfl, hc, by rw [h2]; rfl⟩
  · exact ⟨rfl, hc, by rw [h3]; rfl⟩
  · exact ⟨rfl, hc, by rw [h4]; rfl⟩
  · exact ⟨rfl, by simp [Instr.wf, CtrlBytes.named, hc, h1, h2, h3, h4], rfl⟩

theorem decodeCtrl_fail : decodeCtrl c c.fail = .ctlFail := by
  obtain ⟨-, -, -, hcf, -, -⟩ := (distinct_iff c).mp hc
  simp [decodeCtrl, hcf.symm]

theorem decodeCtrl_rawlock : decodeCtrl c c.rawlock = .ctlRawlock := by
  obtain ⟨-, -, -, -, hcr, hfr⟩ := (distinct_iff c).mp hc
  simp [decodeCtrl, hcr.symm, hfr.symm]

theorem decodeCtrl_init : decodeCtrl c c.init = .ctlInit := by
  obtain ⟨hic, hif, hir, -, -, -⟩ := (distinct_iff c).mp hc
  simp [decodeCtrl, hic, hif, hir]

end

/-- A byte that is none of the control bytes decodes as itself. -/
theorem decodeCtrl_of_not_named {c : CtrlBytes} {v : Byte} (h : c.named v = false) : decodeCtrl c v = .ctlOther v := by
  obtain ⟨hi, hc, hf, hr⟩ := (named_eq_false_iff c v).mp h
  simp [decodeCtrl, hi, hc, hf, hr]

/-- A frame with as many body bytes as its length field says is the frame at the head of its bytes (R63). -/
theorem decodeFrame_cons {p : Half} {body : List Byte} (h : body.length = p.toNat) (rest : List Byte) :
    decodeFrame (hiByte p :: loByte p :: (body ++ rest)) = .ok (.frame p body) rest := by
  have hp : beHalf (hiByte p) (loByte p) = p := hiByte_append_loByte p
  simp [decodeFrame, hp, h, List.take_left' h, List.drop_left' h]

/-- The frame at the head of a byte sequence, and the rest, are that sequence. -/
theorem decodeFrame_encodedAs (c : CtrlBytes) {bytes rest : List Byte} {i : Instr} (h : decodeFrame bytes = .ok i rest) :
    ∃ head, EncodedAs c .frame i head ∧ head ++ rest = bytes := by
  match bytes with
  | [] | [_] => cases h
  | hi :: lo :: tail =>
    by_cases hlen : tail.length < (beHalf hi lo).toNat
    · simp [decodeFrame, hlen] at h
    · obtain ⟨rfl, rfl⟩ : .frame (beHalf hi lo) (tail.take (beHalf hi lo).toNat) = i ∧
          tail.drop (beHalf hi lo).toNat = rest := by
        simpa [decodeFrame, hlen] using h
      refine ⟨[hi, lo] ++ tail.take (beHalf hi lo).toNat, ⟨rfl, ?_, ?_⟩, by simp⟩
      · simpa [Instr.wf] using Nat.le_of_not_lt hlen
      · rw [← bytes_beHalf]
        rfl

/-! ### The spaces of codes (R19, R20, R68, R69) -/

section
variable (c : CtrlBytes)

theorem decodeHStep_encodedAs {x : BitVec 4} {i : Instr} (h : decodeHStep x = some i) :
    EncodedAs c .hstep i [BitVec.ofNat 8 x.toNat] := by
  unfold decodeHStep at h
  split at h <;> cases h <;> rename_i hx <;> exact ⟨rfl, rfl, by rw [hx]; rfl⟩

theorem decodeFStep_encodedAs (x : BitVec 2) : EncodedAs c .fstep (decodeFStep x) [BitVec.ofNat 8 x.toNat] := by
  unfold decodeFStep
  split
  case h_4 h0 h1 h2 =>
    have hx : x.toNat = 3 := by
      have hlt := x.isLt
      simp only [imp_false] at h0 h1 h2
      omega
    exact ⟨rfl, rfl, by rw [hx]; rfl⟩
  all_goals rename_i hx; exact ⟨rfl, rfl, by rw [hx]; rfl⟩

theorem decodeRes_encodedAs {x : BitVec 4} {i : Instr} (h : decodeRes x = some i) :
    EncodedAs c .res i [BitVec.ofNat 8 x.toNat] := by
  unfold decodeRes at h
  split at h <;> cases h <;> rename_i hx <;> exact ⟨rfl, rfl, by rw [hx]; rfl⟩

theorem decodeMf_encodedAs {x : BitVec 3} {i : Instr} (h : decodeMf x = some i) :
    EncodedAs c .mf i [BitVec.ofNat 8 x.toNat] := by
  unfold decodeMf at h
  split at h <;> cases h <;> rename_i hx <;> exact ⟨rfl, rfl, by rw [hx]; rfl⟩

variable {c} in
/-- A byte read as a code of at most eight bits has no high bit set, so that it is the byte of the code. -/
theorem decodeCode_encodedAs {n : Nat} {f : BitVec n → Option Instr} {sp : Space}
    (hf : ∀ {x i}, f x = some i → EncodedAs c sp i [BitVec.ofNat 8 x.toNat]) {v : Byte} {tail rest : List Byte} {i : Instr}
    (h : decodeCode n f v tail = .ok i rest) : ∃ head, EncodedAs c sp i head ∧ head ++ rest = v :: tail := by
  unfold decodeCode at h
  split at h
  case isFalse => cases h
  case isTrue hlt =>
    split at h
    case h_2 => cases h
    case h_1 j hj =>
      obtain ⟨rfl, rfl⟩ := Decoded.ok.inj h
      have hv : BitVec.ofNat 8 (BitVec.ofNat n v.toNat).toNat = v := by simp [Nat.mod_eq_of_lt hlt]
      exact ⟨[v], hv ▸ hf hj, rfl⟩

end

/-! ### The two round trips -/

/-- Settles O58: a code is decoded by evaluation; a field with an operand by the lemma of its space. -/
theorem decodeOfEncode : Obligations.DecodeOfEncode := by
  intro c i rest h
  cases i with
  | csClr d => exact (decode_encodeCmd c _ d rest).trans (by rw [decodeCmd_append]; rfl)
  | csAdd d => exact (decode_encodeCmd c _ d rest).trans (by rw [decodeCmd_append]; rfl)
  | rdFrame d => exact (decode_encodeCmd c _ d rest).trans (by rw [decodeCmd_append]; rfl)
  | hsStart d => exact (decode_encodeCmd c _ d rest).trans (by rw [decodeCmd_append]; rfl)
  | frame p body => exact decodeFrame_cons (by simpa [Instr.wf] using h) rest
  | ptUnknown t =>
    have ht : decodePType (beHalf (hiByte t) (loByte t)) = .ptUnknown t := by
      rw [beHalf, hiByte_append_loByte]
      exact decodePType_of_not_defined (by simpa [Instr.wf] using h)
    exact congrArg (Decoded.ok · rest) ht
  | ctlInit => exact congrArg (Decoded.ok · rest) (decodeCtrl_init h)
  | ctlConfirm => exact congrArg (Decoded.ok · rest) (if_pos rfl)
  | ctlFail => exact congrArg (Decoded.ok · rest) (decodeCtrl_fail h)
  | ctlRawlock => exact congrArg (Decoded.ok · rest) (decodeCtrl_rawlock h)
  | ctlOther v =>
    have hv : c.named v = false := by
      obtain ⟨-, hv⟩ : c.distinct = true ∧ c.named v = false := by simpa [Instr.wf] using h
      exact hv
    exact congrArg (Decoded.ok · rest) (decodeCtrl_of_not_named hv)
  | _ => rfl

/-- Every decoder reads the encoding of what it answers from the head of the bytes. -/
theorem decode_encodedAs {c : CtrlBytes} {sp : Space} {bytes rest : List Byte} {i : Instr} (hc : c.distinct = true)
    (h : decode c sp bytes = .ok i rest) : ∃ head, EncodedAs c sp i head ∧ head ++ rest = bytes := by
  match sp, bytes with
  | .frame, _ => exact decodeFrame_encodedAs c h
  | .cmd, hi :: lo :: tail => exact decode_cmd_encodedAs h
  | .ptype, hi :: lo :: tail =>
    obtain ⟨rfl, rfl⟩ := Decoded.ok.inj h
    exact ⟨_, bytes_beHalf hi lo ▸ decodePType_encodedAs c (beHalf hi lo), rfl⟩
  | .ctrl, v :: tail =>
    obtain ⟨rfl, rfl⟩ := Decoded.ok.inj h
    exact ⟨_, decodeCtrl_encodedAs hc v, rfl⟩
  | .hstep, v :: tail => exact decodeCode_encodedAs (decodeHStep_encodedAs c) h
  | .fstep, v :: tail =>
    exact decodeCode_encodedAs (f := fun x => some (decodeFStep x))
      (fun {x i} hx => by obtain rfl := Option.some.inj hx; exact decodeFStep_encodedAs c x) h
  | .res, v :: tail => exact decodeCode_encodedAs (decodeRes_encodedAs c) h
  | .mf, v :: tail => exact decodeCode_encodedAs (decodeMf_encodedAs c) h
  | .cmd, [] | .cmd, [_] | .ptype, [] | .ptype, [_] | .ctrl, [] | .hstep, [] | .fstep, [] | .res, [] | .mf, [] => cases h

/-- Settles O59: what a decoder answers is encoded as the head it took off the bytes. -/
theorem encodeOfDecode : Obligations.EncodeOfDecode := by
  intro c sp bytes rest i hc h
  obtain ⟨head, ⟨space, wf, rfl⟩, hbytes⟩ := decode_encodedAs hc h
  exact ⟨space, wf, hbytes⟩

/-- Settles O60: each word is evaluated. -/
theorem writtenOutWordsDecode : Obligations.WrittenOutWordsDecode := by
  unfold Obligations.WrittenOutWordsDecode
  decide

end Sys2Proof.Machine
end

/-! The invariants of R30 and what their induction needs: the reset state has them and every step keeps them, so that no legal
state stops. -/

section
namespace Sys2Proof.Machine

/-! ### The invariant, register group by register group -/

/-- What `Inv` says of the framer's registers and of the sum `acc` in `CS_ACC`. -/
structure FrameInv (f : Framer) (acc : Byte) : Prop where
  payLenCap : f.payLen.toNat ≤ 50
  payWf : Memory.wf f.pay = true
  readBad : f.state ≠ .idle → f.malf ≠ .none → f.payLen = 0#6 ∧ acc = 0#8 ∧ f.rxCsum = 0#8
  lenStart : f.state = .len0 ∨ f.state = .len1 →
    f.malf = .none ∧ f.payLen = 0#6 ∧ acc = 0#8 ∧ f.rxCsum = 0#8
  bodyIdx : f.state = .body → f.idx.toNat < f.pktNBytes.toNat ∧ 1 ≤ f.pktNBytes.toNat
  bodyRx : f.state = .body → f.rxCsum = 0#8
  headStart : f.state = .body → f.idx.toNat ≤ 3 → f.payLen = 0#6 ∧ acc = 0#8 ∧
    (f.malf = .none ∧ 4 ≤ f.pktNBytes.toNat ∨ f.malf = .hdrTrunc ∧ f.pktNBytes.toNat < 4)
  bodyGood : f.malf = .none → f.state = .body → 4 ≤ f.idx.toNat →
    f.bufNBytes.toNat ≤ 50 ∧ f.pktNBytes.toNat = f.bufNBytes.toNat + 5 ∧
    f.payLen.toNat = min (f.idx.toNat - 4) f.bufNBytes.toNat ∧ acc = checksum (Memory.bytes f.pay f.payLen.toNat)

/-- What `Inv` says of the session. -/
structure SessionInv (h : Handshake) : Prop where
  lockedIff : h.locked = true ↔ h.state = .locked
  echoClear : h.state = .idle ∨ h.state = .locked → h.echoV = false
  abdMirror : h.abdEn = h.state.detecting

/-- `Inv` is what it says of each group of registers, with (c) of R30 between the two sequencers. -/
theorem inv_iff (s : State) : Inv s ↔
    FrameInv s.frm s.cse.acc ∧ SessionInv s.hsm ∧ (s.frm.state = .idle ∨ s.hsm.state.active = false) ∧
      s.smp.dbgInt = 0#16 ∧ s.lastRes.reserved = false := by
  have disjoint_iff : ¬ (s.frm.state ≠ .idle ∧ s.hsm.state ≠ .idle ∧ s.hsm.state ≠ .locked) ↔
      s.frm.state = .idle ∨ s.hsm.state.active = false := by
    simp [HState.active, or_iff_not_imp_left]
  constructor
  · intro inv
    exact ⟨⟨inv.payLenCap, inv.payWf, inv.readBad, inv.lenStart, inv.bodyIdx, inv.bodyRx, inv.headStart, inv.bodyGood⟩,
      ⟨inv.lockedIff, inv.echoClear, inv.abdMirror⟩, disjoint_iff.mp inv.disjoint, inv.dbgInt, inv.noReserved⟩
  · rintro ⟨frame, session, disjoint, dbgInt, noReserved⟩
    exact ⟨⟨frame.payLenCap, session.lockedIff, disjoint_iff.mpr disjoint, frame.bodyIdx, frame.bodyGood, frame.readBad,
      session.echoClear⟩, frame.payWf, frame.lenStart, frame.headStart, frame.bodyRx, dbgInt, session.abdMirror, noReserved⟩

/-! ### The framer's registers -/

section
variable {f : Framer} {acc : Byte}

/-- With no read in flight only the payload buffer counts. -/
theorem FrameInv.of_idle (hs : f.state = .idle) (hlen : f.payLen.toNat ≤ 50) (hwf : Memory.wf f.pay = true) :
    FrameInv f acc := by
  constructor <;> simp_all

/-- While the length field is read nothing of the frame is stored. -/
theorem FrameInv.of_length (hs : f.state = .len0 ∨ f.state = .len1) (hwf : Memory.wf f.pay = true)
    (h : f.malf = .none ∧ f.payLen = 0#6 ∧ acc = 0#8 ∧ f.rxCsum = 0#8) : FrameInv f acc := by
  have hb : f.state ≠ .body := by rcases hs with h | h <;> simp [h]
  constructor <;> simp_all

/-- While the header is read nothing of the frame is stored either, and only `P < 4` is flagged. -/
theorem FrameInv.of_header (hs : f.state = .body) (hidx : f.idx.toNat < f.pktNBytes.toNat) (hhead : f.idx.toNat ≤ 3)
    (hwf : Memory.wf f.pay = true) (hrx : f.rxCsum = 0#8) (h : f.payLen = 0#6 ∧ acc = 0#8 ∧
      (f.malf = .none ∧ 4 ≤ f.pktNBytes.toNat ∨ f.malf = .hdrTrunc ∧ f.pktNBytes.toNat < 4)) : FrameInv f acc := by
  constructor
  case bodyIdx => exact fun _ => ⟨hidx, by omega⟩
  case bodyGood => omega
  all_goals simp_all

/-- After the header of a malformed frame nothing is ever stored. -/
theorem FrameInv.of_drain (hs : f.state = .body) (hidx : f.idx.toNat < f.pktNBytes.toNat) (hbody : 4 ≤ f.idx.toNat)
    (hwf : Memory.wf f.pay = true) (hm : f.malf ≠ .none)
    (h : f.payLen = 0#6 ∧ acc = 0#8 ∧ f.rxCsum = 0#8) : FrameInv f acc := by
  constructor
  case bodyIdx => exact fun _ => ⟨hidx, by omega⟩
  case headStart => omega
  all_goals simp_all

/-- After the header of a well-formed frame the payload received so far is stored and summed. -/
theorem FrameInv.of_payload (hs : f.state = .body) (hidx : f.idx.toNat < f.pktNBytes.toNat) (hbody : 4 ≤ f.idx.toNat)
    (hwf : Memory.wf f.pay = true) (hm : f.malf = .none) (hrx : f.rxCsum = 0#8) (hb : f.bufNBytes.toNat ≤ 50)
    (hp : f.pktNBytes.toNat = f.bufNBytes.toNat + 5) (hlen : f.payLen.toNat = f.idx.toNat - 4)
    (hacc : acc = checksum (Memory.bytes f.pay (f.idx.toNat - 4))) : FrameInv f acc := by
  constructor
  case payLenCap => omega
  case bodyIdx => exact fun _ => ⟨hidx, by omega⟩
  case headStart => omega
  case bodyGood => exact fun _ _ _ => ⟨hb, hp, by omega, hlen ▸ hacc⟩
  all_goals simp_all

end

/-- Completing a read keeps the framer's part of the invariant, whatever the read was. -/
theorem State.complete_frameInv {s : State} (hlen : s.frm.payLen.toNat ≤ 50) (hwf : Memory.wf s.frm.pay = true) :
    FrameInv s.complete.frm s.complete.cse.acc := by
  obtain ⟨smp, cnt, c, e, -⟩ := s.complete_spec
  rw [e]
  exact .of_idle rfl hlen hwf

/-- The index after a body byte that was not the last one (R99). -/
theorem toNat_idx_succ {f : Framer} (h : f.idx.toNat < f.pktNBytes.toNat) : (f.idx + 1#16).toNat = f.idx.toNat + 1 := by
  bv_omega

/-- Advancing keeps the framer's part of the invariant, if the state with the next index has it where the body goes on. -/
theorem State.advance_frameInv {s : State} (hidx : s.frm.idx.toNat < s.frm.pktNBytes.toNat) (hlen : s.frm.payLen.toNat ≤ 50)
    (hwf : Memory.wf s.frm.pay = true) (next : ∀ i : Half, i.toNat = s.frm.idx.toNat + 1 → i.toNat < s.frm.pktNBytes.toNat →
      FrameInv { s.frm with idx := i } s.cse.acc) : FrameInv s.advance.frm s.advance.cse.acc := by
  rcases s.advance_cases with ⟨-, e⟩ | ⟨hne, e⟩ <;> rw [e]
  · exact State.complete_frameInv hlen hwf
  · exact next _ (toNat_idx_succ hidx) (by rw [toNat_idx_succ hidx]; omega)

/-- Validation flags no cause exactly where the frame is well-formed (R64, R95). -/
theorem validate_eq_none_iff {p n : Half} : validate p n = none ↔ n.toNat ≤ 50 ∧ p.toNat = n.toNat + 5 := by
  unfold validate
  split_ifs <;> simp <;> omega

/-- A cause that validation flags is one (R95). -/
theorem validate_ne_none {p n : Half} {m : Malf} (h : validate p n = some m) : m ≠ .none := by
  rintro rfl
  unfold validate at h
  split_ifs at h <;> cases h

/-- One more byte behind a list is one more byte in its sum (R111). -/
theorem checksum_append_singleton (p : List Byte) (b : Byte) : checksum (p ++ [b]) = checksum p + b :=
  List.foldl_concat ..

/-- A payload byte goes behind the bytes already in the buffer (R96). -/
theorem Memory.bytes_write_end (m : Memory) (n : Nat) (b : Byte) (hwf : Memory.wf m = true) :
    Memory.bytes (Memory.write m n b) (n + 1) = Memory.bytes m n ++ [b] := by
  rw [Memory.bytes_succ, Memory.bytes_write m n n b le_rfl, Memory.read_write_same m 0 n b hwf]

section
variable {s : State} (inv : FrameInv s.frm s.cse.acc) (b : Byte)
include inv

/-- The two length bytes (R92, R93). -/
theorem State.len0Byte_frameInv (hs : s.frm.state = .len0) : FrameInv (s.len0Byte b).frm (s.len0Byte b).cse.acc :=
  .of_length (.inr rfl) inv.payWf (inv.lenStart (.inl hs))

theorem State.len1Byte_frameInv (hs : s.frm.state = .len1) : FrameInv (s.len1Byte b).frm (s.len1Byte b).cse.acc := by
  obtain ⟨hmalf, hlen, hacc, hrx⟩ := inv.lenStart (.inr hs)
  by_cases hp : s.frm.pktNBytes.extractLsb' 8 8 ++ b = 0#16
  · rw [State.len1Byte_zero rfl hp]
    exact .of_idle rfl inv.payLenCap inv.payWf
  · rw [State.len1Byte_ne_zero rfl hp, hmalf]
    refine .of_header rfl ?_ (Nat.zero_le _) inv.payWf hrx ⟨hlen, hacc, ?_⟩
    · exact Nat.pos_of_ne_zero fun h => hp (BitVec.eq_of_toNat_eq h)
    · by_cases hlt : (s.frm.pktNBytes.extractLsb' 8 8 ++ b).toNat < 4
      · exact .inr ⟨if_pos hlt, hlt⟩
      · exact .inl ⟨if_neg hlt, Nat.le_of_not_lt hlt⟩

variable (hs : s.frm.state = .body)
include hs

/-- A header byte before the last one records, and changes no cause (R94). -/
theorem State.headerByte_frameInv (hi : s.frm.idx.toNat ≤ 2) :
    FrameInv (s.headerByte b).advance.frm (s.headerByte b).advance.cse.acc := by
  obtain ⟨t, n, m, e, hm⟩ := State.headerByte_spec b s
  obtain rfl := hm hi
  obtain ⟨hidx, -⟩ := inv.bodyIdx hs
  rw [e]
  exact State.advance_frameInv (by exact hidx) (by exact inv.payLenCap) (by exact inv.payWf) fun i heq hlt =>
    .of_header hs hlt (by simp only [heq]; omega) inv.payWf (inv.bodyRx hs) (inv.headStart hs (by omega))

/-- The last header byte validates the header: what passes is a well-formed frame (R64, R95). -/
theorem State.headerByte_three_frameInv (hi : s.frm.idx.toNat = 3) :
    FrameInv (s.headerByte b).advance.frm (s.headerByte b).advance.cse.acc := by
  obtain ⟨hidx, -⟩ := inv.bodyIdx hs
  obtain ⟨hlen, hacc, hmalf⟩ := inv.headStart hs (by omega)
  have hmalf : s.frm.malf = .none := by
    rcases hmalf with ⟨h, -⟩ | ⟨-, h⟩
    · exact h
    · omega
  rw [State.headerByte_three b (BitVec.eq_of_toNat_eq hi) rfl, hmalf]
  refine State.advance_frameInv (by exact hidx) (by exact inv.payLenCap) (by exact inv.payWf) fun i heq hlt => ?_
  have hi4 : i.toNat = 4 := by simp only [heq]; omega
  cases hv : validate s.frm.pktNBytes (s.frm.bufNBytes.extractLsb' 8 8 ++ b) with
  | some m =>
    exact .of_drain hs hlt hi4.ge inv.payWf (validate_ne_none hv) ⟨hlen, hacc, inv.bodyRx hs⟩
  | none =>
    obtain ⟨hb, hp⟩ := validate_eq_none_iff.mp hv
    exact .of_payload hs hlt hi4.ge inv.payWf rfl (inv.bodyRx hs) hb hp (by simp [hlen, hi4]) (by simp [hi4, hacc, Memory.bytes])

/-- A byte drained stores nothing (R98). -/
theorem State.drain_frameInv (hi : 4 ≤ s.frm.idx.toNat) (hm : s.frm.malf ≠ .none) :
    FrameInv s.advance.frm s.advance.cse.acc := by
  obtain ⟨hidx, -⟩ := inv.bodyIdx hs
  exact State.advance_frameInv hidx inv.payLenCap inv.payWf fun i heq hlt =>
    .of_drain hs hlt (by simp only [heq]; omega) inv.payWf hm (inv.readBad (by simp [hs]) hm)

/-- A payload byte is stored behind the ones before it, and summed with them (R96). -/
theorem State.storePayload_frameInv (hi : 4 ≤ s.frm.idx.toNat) (hm : s.frm.malf = .none)
    (hlt : s.frm.idx.toNat < 4 + s.frm.bufNBytes.toNat) :
    FrameInv (s.storePayload b).advance.frm (s.storePayload b).advance.cse.acc := by
  obtain ⟨hidx, -⟩ := inv.bodyIdx hs
  obtain ⟨hb, hp, hlen, hacc⟩ := inv.bodyGood hm hs hi
  have hcap : s.frm.idx.toNat - 4 < payCap := by unfold payCap; omega
  have hwf := Memory.wf_write s.frm.pay _ b inv.payWf hcap
  have hlen' : (BitVec.ofNat 6 (s.frm.idx.toNat - 3)).toNat = s.frm.idx.toNat - 3 := by
    simp; omega
  refine State.advance_frameInv (by exact hidx) (by exact hlen'.trans_le (by omega)) (by exact hwf) fun i heq hlt => ?_
  have heq : i.toNat = s.frm.idx.toNat + 1 := heq
  refine .of_payload hs hlt (by simp only [heq]; omega) hwf hm (inv.bodyRx hs) hb hp ?_ ?_
  · simp only [heq]
    exact hlen'.trans (by omega)
  · obtain hlen : s.frm.payLen.toNat = s.frm.idx.toNat - 4 := by omega
    have hnext : i.toNat - 4 = s.frm.idx.toNat - 4 + 1 := by omega
    have hbytes := Memory.bytes_write_end s.frm.pay (s.frm.idx.toNat - 4) b inv.payWf
    simp only [State.storePayload_cse, State.storePayload_frm, addByte, hacc, hlen, hnext, hbytes, checksum_append_singleton]

/-- Every body byte of a legal state has a rule, and keeps the framer's part of the invariant (R94 to R98). -/
theorem State.bodyByte_frameInv : ∃ t, s.bodyByte b = .next t ∧ FrameInv t.frm t.cse.acc := by
  obtain ⟨hidx, -⟩ := inv.bodyIdx hs
  by_cases hhead : s.frm.idx.toNat ≤ 3
  · refine ⟨_, State.bodyByte_header hhead rfl, ?_⟩
    by_cases hi : s.frm.idx.toNat ≤ 2
    · exact State.headerByte_frameInv inv b hs hi
    · exact State.headerByte_three_frameInv inv b hs (by omega)
  have hi : 4 ≤ s.frm.idx.toNat := by omega
  by_cases hm : s.frm.malf = .none
  · obtain ⟨hb, hp, -⟩ := inv.bodyGood hm hs hi
    by_cases hlt : s.frm.idx.toNat < 4 + s.frm.bufNBytes.toNat
    · exact ⟨_, State.bodyByte_payload b hi hm hb hlt, State.storePayload_frameInv inv b hs hi hm hlt⟩
    · refine ⟨_, State.bodyByte_checksum b hm (by omega), ?_⟩
      rw [State.advance_of_eq (by show s.frm.idx.toNat + 1 = s.frm.pktNBytes.toNat; omega)]
      exact State.complete_frameInv (by exact inv.payLenCap) (by exact inv.payWf)
  · exact ⟨_, State.bodyByte_drain b hi hm, State.drain_frameInv inv hs hi hm⟩

omit hs in
/-- Every received byte of a legal state has a rule, and keeps the framer's part of the invariant. -/
theorem State.framerByte_frameInv (hs : s.frm.state ≠ .idle) :
    ∃ t, s.framerByte b = .next t ∧ FrameInv t.frm t.cse.acc := by
  unfold State.framerByte
  cases hst : s.frm.state with
  | idle => exact absurd hst hs
  | len0 => exact ⟨_, rfl, State.len0Byte_frameInv inv b hst⟩
  | len1 => exact ⟨_, rfl, State.len1Byte_frameInv inv b hst⟩
  | body => exact State.bodyByte_frameInv inv b hst

end

/-! ### The session -/

/-- The transitions of R151 whose step takes no byte and leaves `ABD_EN` as it is. -/
def plainTransitions : List (HState × HState) :=
  [(.initClr, .initEn), (.txInit, .chkOvf), (.chkOvf, .flush), (.chkOvf, .chkAbd), (.flush, .txInit), (.chkAbd, .disAbd),
    (.chkAbd, .txInit), (.txConf, .rxEcho), (.rtyTx, .rtyRx)]

/-- They stay in flight, and on one side of the auto-baud detection. -/
theorem plainTransitions_spec :
    ∀ e ∈ plainTransitions, e.2 ≠ .idle ∧ e.2 ≠ .locked ∧ e.2.detecting = e.1.detecting := by
  decide

/-- What a step of a handshake in flight does to the session (R137 to R149). -/
inductive SessionStep (h : Handshake) : Handshake → Prop
  /-- no byte to read -/
  | waits : SessionStep h h
  /-- a step that takes no byte, and leaves `ABD_EN` -/
  | moves {k : HState} (edge : (h.state, k) ∈ plainTransitions) : SessionStep h { h with state := k }
  /-- `H_INIT_EN` -/
  | enables (hs : h.state = .initEn) : SessionStep h { h with abdEn := true, state := .txInit }
  /-- `H_DIS_ABD` -/
  | disables (hs : h.state = .disAbd) : SessionStep h { h with abdEn := false, state := .txConf }
  /-- a reply locks -/
  | locks (hs : h.state = .rxEcho ∨ h.state = .rtyRx) :
      SessionStep h { h with locked := true, echo := 0x00#8, echoV := false, state := .locked }
  /-- a reply leads to a resend -/
  | retries (r : Byte) (hs : h.state = .rxEcho ∨ h.state = .rtyRx) :
      SessionStep h { h with echo := r, echoV := true, state := .rtyTx }
  /-- a reply restarts the handshake -/
  | restarts (r : Byte) (hs : h.state = .rxEcho) : SessionStep h { h with echo := r, echoV := true, state := .initClr }

/-- A first reply does one of the three things of R145. -/
theorem State.rxEchoByte_sessionStep {s : State} (r : Byte) (hs : s.hsm.state = .rxEcho) :
    SessionStep s.hsm (s.rxEchoByte r).hsm := by
  unfold State.rxEchoByte
  split
  · exact .locks (.inl hs)
  · exact .retries r (.inl hs)
  · exact .restarts r hs

/-- A reply in the confirm retry loop does one of the two things of R147. -/
theorem State.rtyRxByte_sessionStep {s : State} (r : Byte) (hs : s.hsm.state = .rtyRx) :
    SessionStep s.hsm (s.rtyRxByte r).hsm := by
  unfold State.rtyRxByte
  split
  · exact .locks (.inr hs)
  · exact .retries r (.inr hs)

/-- Reading the channel does to the session nothing, or what the byte does. -/
theorem State.onRead_sessionStep {s : State} {k : Byte → State → State}
    (hk : ∀ b, SessionStep s.hsm (k b (s.rxTake.log (.rx b))).hsm) :
    ∃ t, (s.onRead fun b t => .next (k b t)) = .next t ∧ SessionStep s.hsm t.hsm := by
  rcases s.onRead_cases fun b t => .next (k b t) with ⟨b, -, e⟩ | ⟨-, e⟩
  · exact ⟨_, e, hk b⟩
  · exact ⟨_, e, .waits⟩

/-- A handshake in flight always steps, along `SessionStep`. -/
theorem exec_hstep_sessionStep (s : State) (ha : s.hsm.state.active = true) :
    ∃ t, exec (hstepRow s.hsm.state) s = .next t ∧ SessionStep s.hsm t.hsm := by
  obtain ⟨initClr, initEn, txInit, flush, disAbd, txConf, rtyTx⟩ := handshakeStepsWithoutAnswer s
  obtain ⟨chkOvf, chkAbd⟩ := handshakePollsFollowTheAnswer s
  rw [hstepRow_eq]
  cases hh : s.hsm.state with
  | idle | locked => simp [hh, HState.active] at ha
  | initClr => exact ⟨_, initClr hh, .moves (by rw [hh]; decide)⟩
  | initEn => exact ⟨_, initEn hh, .enables hh⟩
  | txInit => exact ⟨_, txInit hh, .moves (by rw [hh]; decide)⟩
  | flush => exact ⟨_, flush hh, .moves (by rw [hh]; decide)⟩
  | disAbd => exact ⟨_, disAbd hh, .disables hh⟩
  | txConf => exact ⟨_, txConf hh, .moves (by rw [hh]; decide)⟩
  | rtyTx => exact ⟨_, rtyTx hh, .moves (by rw [hh]; decide)⟩
  | chkOvf =>
    obtain ⟨v, -, t, e, ht⟩ := chkOvf hh
    refine ⟨t, e, ?_⟩
    rw [ht]
    exact .moves (by rw [hh]; cases v <;> decide)
  | chkAbd =>
    obtain ⟨v, -, t, e, ht⟩ := chkAbd hh
    refine ⟨t, e, ?_⟩
    rw [ht]
    exact .moves (by rw [hh]; cases v <;> decide)
  | rxEcho =>
    obtain ⟨t, e, ht⟩ := s.onRead_sessionStep fun r => State.rxEchoByte_sessionStep (s := s.rxTake.log (.rx r)) r hh
    exact ⟨t, (if_pos hh).trans e, ht⟩
  | rtyRx =>
    obtain ⟨t, e, ht⟩ := s.onRead_sessionStep fun r => State.rtyRxByte_sessionStep (s := s.rxTake.log (.rx r)) r hh
    exact ⟨t, (if_pos hh).trans e, ht⟩

/-- A step of a handshake in flight keeps the session's part of the invariant. -/
theorem SessionInv.of_sessionStep {h k : Handshake} (inv : SessionInv h) (ha : h.state.active = true) (hk : SessionStep h k) :
    SessionInv k := by
  obtain ⟨lockedIff, echoClear, abdMirror⟩ := inv
  have hlocked : h.locked = false := by
    rw [← Bool.not_eq_true, lockedIff]
    rintro e
    simp [e, HState.active] at ha
  cases hk with
  | waits => exact ⟨lockedIff, echoClear, abdMirror⟩
  | moves edge =>
    obtain ⟨hidle, hlock, hdet⟩ := plainTransitions_spec _ edge
    exact ⟨by simpa [hlocked] using hlock, by simp [hidle, hlock], abdMirror.trans hdet.symm⟩
  | enables hs => exact ⟨by simp [hlocked], by simp, rfl⟩
  | disables hs => exact ⟨by simp [hlocked], by simp, rfl⟩
  | locks hs => exact ⟨by simp, by simp, by rcases hs with hs | hs <;> rw [abdMirror, hs] <;> rfl⟩
  | retries r hs => exact ⟨by simp [hlocked], by simp, by rcases hs with hs | hs <;> rw [abdMirror, hs] <;> rfl⟩
  | restarts r hs => exact ⟨by simp [hlocked], by simp, by rw [abdMirror, hs]; rfl⟩

/-- Out of flight the handshake is in one of its two resting states (R27). -/
theorem active_eq_false_iff (h : HState) : h.active = false ↔ h = .idle ∨ h = .locked := by
  simp [HState.active, or_iff_not_imp_left]

/-- The start of a handshake keeps the session's part of the invariant (R136). -/
theorem SessionInv.start {h : Handshake} (inv : SessionInv h) (hs : h.state = .idle) :
    SessionInv { h with echo := 0x00#8, echoV := false, state := .initClr } := by
  obtain ⟨lockedIff, -, abdMirror⟩ := inv
  exact ⟨by simp [lockedIff, hs], fun _ => rfl, by rw [abdMirror, hs]; rfl⟩

/-! ### Every step keeps the invariant -/

/-- Settles O55: nothing is in flight, nothing is locked, and `PAY` is empty. -/
theorem resetIsLegal : Obligations.ResetIsLegal :=
  (inv_iff _).mpr ⟨.of_idle rfl (Nat.zero_le _) rfl, ⟨by decide, fun _ => rfl, rfl⟩, .inl rfl, rfl, rfl⟩

/-- The invariant is about registers, which a state may share with a legal one. -/
theorem Inv.congr {s t : State} (inv : Inv s) (hfrm : t.frm = s.frm) (hacc : t.cse.acc = s.cse.acc) (hhsm : t.hsm = s.hsm)
    (hint : t.smp.dbgInt = s.smp.dbgInt) (hres : t.lastRes.reserved = false) : Inv t := by
  obtain ⟨frame, session, disjoint, dbgInt, -⟩ := (inv_iff s).mp inv
  rw [inv_iff, hfrm, hacc, hhsm, hint]
  exact ⟨frame, session, disjoint, dbgInt, hres⟩

/-- A received byte of a legal read gives a legal state. -/
theorem Inv.framerByte {s : State} (inv : Inv s) (hs : s.frm.state ≠ .idle) (b : Byte) :
    ∃ t, s.framerByte b = .next t ∧ Inv t := by
  obtain ⟨frame, session, disjoint, dbgInt, noReserved⟩ := (inv_iff s).mp inv
  obtain ⟨t, e, hframe⟩ := State.framerByte_frameInv frame b hs
  refine ⟨t, e, (inv_iff t).mpr ⟨hframe, ?_⟩⟩
  have hrest := disjoint.resolve_left hs
  obtain ⟨f, a, ⟨rfl, -⟩ | ⟨rfl, -⟩, -⟩ := State.framerByte_next b s t hs e
  · exact ⟨session, .inr hrest, dbgInt, noReserved⟩
  · obtain ⟨smp, cnt, c, e, hint, hres, -⟩ := State.complete_spec { s with frm := f, cse := { s.cse with acc := a } }
    rw [e]
    exact ⟨session, .inr hrest, hint.trans dbgInt, hres⟩

/-- A step of a legal handshake in flight gives a legal state. -/
theorem Inv.exec_hstep {s : State} (inv : Inv s) (hf : s.frm.state = .idle) (ha : s.hsm.state.active = true) :
    ∃ t, exec (hstepRow s.hsm.state) s = .next t ∧ Inv t := by
  obtain ⟨frame, session, -, dbgInt, noReserved⟩ := (inv_iff s).mp inv
  obtain ⟨t, e, hstep⟩ := exec_hstep_sessionStep s ha
  have hsession := session.of_sessionStep ha hstep
  refine ⟨t, e, (inv_iff t).mpr ?_⟩
  obtain ⟨hs, rx, reads, ovf, abd, polls, evs, ⟨rfl, -⟩ | ⟨rfl, -⟩, -⟩ := Sys2Proof.Machine.exec_hstep s t ha e
  · exact ⟨frame, hsession, .inl hf, dbgInt, noReserved⟩
  · exact ⟨frame, hsession, .inl hf, dbgInt, rfl⟩

/-- A command accepted in a legal state gives a legal state. -/
theorem Inv.exec_cmd {s : State} (inv : Inv s) (hb : s.busy = false) (w : CmdWord) :
    ∃ t, exec (decodeCmd w) s = .next t ∧ Inv t := by
  obtain ⟨hf, ha⟩ := s.busy_eq_false_iff.mp hb
  obtain ⟨frame, session, disjoint, dbgInt, noReserved⟩ := (inv_iff s).mp inv
  rcases Sys2Proof.Machine.exec_cmd w s hb with e | ⟨b, e⟩ | e | ⟨hl, e⟩ | ⟨hl, e⟩
  all_goals refine ⟨_, e, ?_⟩
  · exact (inv_iff _).mpr ⟨.of_idle hf frame.payLenCap frame.payWf, session, disjoint, dbgInt, rfl⟩
  · exact (inv_iff _).mpr ⟨.of_idle hf frame.payLenCap frame.payWf, session, disjoint, dbgInt, rfl⟩
  · exact (inv_iff _).mpr ⟨.of_length (.inl rfl) frame.payWf ⟨rfl, rfl, rfl, rfl⟩, session, .inr ha, dbgInt, noReserved⟩
  · have hidle : s.hsm.state = .idle := ((active_eq_false_iff _).mp ha).resolve_right hl
    exact (inv_iff _).mpr ⟨frame, session.start hidle, .inl hf, dbgInt, noReserved⟩
  · exact inv.congr rfl rfl rfl rfl rfl

/-- A legal state always steps, to a legal state. -/
theorem Inv.step {s : State} (inv : Inv s) : ∃ t, step s = .next t ∧ Inv t := by
  have begun : Inv s.beginStep := inv.congr rfl rfl rfl rfl inv.noReserved
  rcases step_cases s with ⟨-, e⟩ | ⟨-, ⟨hf, e⟩ | ⟨hf, ha, e⟩ | ⟨-, -, -, e⟩ | ⟨hf, ha, w, rest, -, e⟩⟩
  · exact ⟨_, e, resetIsLegal.congr rfl rfl rfl rfl rfl⟩
  · rw [e]
    rcases s.beginStep.onRead_cases fun b t => t.framerByte b with ⟨b, -, e⟩ | ⟨-, e⟩
    · rw [e]
      exact Inv.framerByte (s := s.beginStep.rxTake.log (.rx b)) (begun.congr rfl rfl rfl rfl begun.noReserved) hf b
    · exact ⟨_, e, begun.congr rfl rfl rfl rfl begun.noReserved⟩
  · rw [e]
    exact begun.exec_hstep hf ha
  · exact ⟨_, e, begun⟩
  · rw [e]
    exact Inv.exec_cmd (s := { s.beginStep with cmds := rest }) (begun.congr rfl rfl rfl rfl begun.noReserved)
      ((State.busy_eq_false_iff _).mpr ⟨hf, ha⟩) w

/-- Settles O56: by the branches of the step, each of which gives a legal state. -/
theorem stepKeepsTheInvariant : Obligations.StepKeepsTheInvariant := by
  intro s t inv h
  obtain ⟨u, e, hu⟩ := inv.step
  obtain rfl := Host.Outcome.next.inj (e.symm.trans h)
  exact hu

/-- Settles O57: no branch of a legal state's step faults or is refused. -/
theorem legalStatesNeverStop : Obligations.LegalStatesNeverStop := by
  intro s inv
  obtain ⟨t, e, -⟩ := inv.step
  exact ⟨t, e⟩

end Sys2Proof.Machine
end

/-! The handshake (44_handshake.md) as a whole: its transitions, the characters it sends and receives, its resting states, and its
runs. -/

section
namespace Sys2Proof.Machine

/-! ### The transition table (R151) -/

/-- The rows of R151 that start from a handshake in flight. -/
def flightTransitions : List (HState × HState) :=
  [(.initClr, .initEn), (.initEn, .txInit), (.txInit, .chkOvf), (.chkOvf, .flush), (.chkOvf, .chkAbd), (.flush, .txInit),
    (.chkAbd, .disAbd), (.chkAbd, .txInit), (.disAbd, .txConf), (.txConf, .rxEcho), (.rxEcho, .locked), (.rxEcho, .rtyTx),
    (.rxEcho, .initClr), (.rtyTx, .rtyRx), (.rtyRx, .locked), (.rtyRx, .rtyTx)]

theorem plainTransitions_subset : ∀ e ∈ plainTransitions, e ∈ flightTransitions := by decide

/-- A handshake in flight stays in its state or takes one of those rows. -/
theorem SessionStep.transition {h k : Handshake} (hk : SessionStep h k) :
    k.state = h.state ∨ (h.state, k.state) ∈ flightTransitions := by
  cases hk with
  | waits => exact .inl rfl
  | moves edge => exact .inr (plainTransitions_subset _ edge)
  | enables hs | disables hs | restarts r hs => exact .inr (by simp [hs, flightTransitions])
  | locks hs | retries r hs => exact .inr (by rcases hs with hs | hs <;> simp [hs, flightTransitions])

/-- Settles O34: a handshake in flight goes along `SessionStep`, a command starts one, and nothing else writes `H_STATE`. -/
theorem handshakeTransitionsAreTheTable : Obligations.HandshakeTransitionsAreTheTable := by
  intro s t h hr hne
  rcases step_next s t h hr with ⟨hf, -⟩ | ⟨-, ha, he⟩ | ⟨-, -, -, rfl⟩ |
    ⟨-, -, w, rest, u, -, rfl, rfl | ⟨b, rfl⟩ | rfl | ⟨hidle, rfl⟩ | ⟨-, rfl⟩⟩
  · obtain ⟨kept, -⟩ := framerIgnoresTheSession s t s.hsm hf hr h
    exact absurd (congrArg Handshake.state kept) hne
  · obtain ⟨u, e, hstep⟩ := exec_hstep_sessionStep s.beginStep ha
    obtain rfl := Host.Outcome.next.inj (e.symm.trans he)
    exact List.mem_cons_of_mem _ (hstep.transition.resolve_left hne)
  · exact absurd rfl hne
  · exact absurd rfl hne
  · exact absurd rfl hne
  · exact absurd rfl hne
  · simp [hidle]
  · exact absurd rfl hne

/-! ### The control characters (R139, R144 to R148) -/

/-- A control character received in `H_RX_ECHO` is the first reply (R145). -/
theorem State.receiveCtl_rxEcho {s : State} (r : Byte) (hs : s.hsm.state = .rxEcho) : s.receiveCtl r = s.rxEchoByte r := by
  simp [State.receiveCtl, hs]

/-- A control character received in `H_RTY_RX` is a reply of the confirm retry loop (R147). -/
theorem State.receiveCtl_rtyRx {s : State} (r : Byte) (hs : s.hsm.state = .rtyRx) : s.receiveCtl r = s.rtyRxByte r := by
  simp [State.receiveCtl, hs]

theorem State.rtyRxByte_confirm {s : State} {r : Byte} (h : r = s.ctl.confirm) : s.rtyRxByte r = s.lock := if_pos h

theorem State.rtyRxByte_other {s : State} {r : Byte} (h : r ≠ s.ctl.confirm) : s.rtyRxByte r = s.storeEcho r .rtyTx := if_neg h

section
variable {s : State}

/-- In a state that does not send it, the initiate byte is received. -/
theorem exec_ctlInit_received (h : s.hsm.state ≠ .txInit) : exec .ctlInit s = .next (s.receiveCtl s.ctl.init) :=
  congrArg Host.Outcome.next (if_neg h)

/-- In a state that does not send it, the confirm byte is received. -/
theorem exec_ctlConfirm_received (h : s.hsm.state ≠ .txConf) (h' : s.hsm.state ≠ .rtyTx) :
    exec .ctlConfirm s = .next (s.receiveCtl s.ctl.confirm) :=
  congrArg Host.Outcome.next ((if_neg h).trans (if_neg h'))

end

/-- Settles O33: the row of a control character is the rule of the state it is received or sent in. -/
theorem controlCharactersSentAndReceived : Obligations.ControlCharactersSentAndReceived := by
  rintro s _ hctl rfl
  obtain ⟨ic, if', ir, cf, cr, -⟩ := (distinct_iff s.ctl).mp hctl
  refine ⟨fun hs => ?_, fun hs => ?_, fun hs => ?_, fun hs => ?_, fun hs => ?_⟩
  · have received (r : Byte) : s.receiveCtl r = s.rxEchoByte r := State.receiveCtl_rxEcho r hs
    refine ⟨?_, ?_, ?_, ?_, fun v hv => ?_⟩
    · rw [exec_ctlConfirm_received (by simp [hs]) (by simp [hs]), received, State.rxEchoByte_confirm rfl]
      rfl
    · exact congrArg Host.Outcome.next ((received _).trans (State.rxEchoByte_retry cf.symm (.inl rfl)))
    · exact congrArg Host.Outcome.next ((received _).trans (State.rxEchoByte_retry cr.symm (.inr rfl)))
    · rw [exec_ctlInit_received (by simp [hs]), received, State.rxEchoByte_other ic if' ir]
      rfl
    · obtain ⟨-, hc, hf, hr⟩ := (named_eq_false_iff _ _).mp hv
      exact congrArg Host.Outcome.next ((received v).trans (State.rxEchoByte_other hc hf hr))
  · have received (r : Byte) : s.receiveCtl r = s.rtyRxByte r := State.receiveCtl_rtyRx r hs
    refine ⟨?_, ?_, ?_, ?_, fun v hv => ?_⟩
    · rw [exec_ctlConfirm_received (by simp [hs]) (by simp [hs]), received, State.rtyRxByte_confirm rfl]
      rfl
    · exact congrArg Host.Outcome.next ((received _).trans (State.rtyRxByte_other cf.symm))
    · exact congrArg Host.Outcome.next ((received _).trans (State.rtyRxByte_other cr.symm))
    · rw [exec_ctlInit_received (by simp [hs]), received, State.rtyRxByte_other ic]
      rfl
    · obtain ⟨-, hc, -, -⟩ := (named_eq_false_iff _ _).mp hv
      exact congrArg Host.Outcome.next ((received v).trans (State.rtyRxByte_other hc))
  · exact congrArg Host.Outcome.next (if_pos hs)
  · exact congrArg Host.Outcome.next (if_pos hs)
  · exact congrArg Host.Outcome.next ((if_neg (by simp [hs])).trans (if_pos hs))

/-! ### The resting states (R91, R136, R150) -/

section
variable {s : State} {d : Byte} {rest : List CmdWord}

theorem State.presentsRdFrame_of_cons (h : s.cmds = (0b10#2 ++ d) :: rest) : s.presentsRdFrame = some rest := by
  simp [State.presentsRdFrame, h, decodeCmd_append]

theorem State.presentsHsStart_of_cons (h : s.cmds = (0b11#2 ++ d) :: rest) : s.presentsHsStart = some rest := by
  simp [State.presentsHsStart, h, decodeCmd_append]

theorem State.presentsRdFrame_of_nil (h : s.cmds = []) : s.presentsRdFrame = none := by
  simp [State.presentsRdFrame, h]

theorem State.presentsHsStart_of_nil (h : s.cmds = []) : s.presentsHsStart = none := by
  simp [State.presentsHsStart, h]

end

/-- Settles O28: each row looks for its own command at the port, and does with it what the command's row does. -/
theorem restingStatesWaitForTheHost : Obligations.RestingStatesWaitForTheHost := by
  refine fun s hb => ⟨⟨fun d rest hc => ?_, fun hc => ?_⟩, fun hs => ⟨fun d rest hc => ?_, fun hc => ?_⟩,
    fun hs => ⟨fun d rest hc => ?_, fun hc => ?_⟩⟩
  · simp [exec, execFIdle, hb, State.presentsRdFrame_of_cons hc, State.startRead, State.csClear, State.log]
  · simp [exec, execFIdle, State.presentsRdFrame_of_nil hc]
  · simp [exec, execHIdle, hb, hs, State.presentsHsStart_of_cons hc, State.startHandshake, State.log]
  · simp [exec, execHIdle, State.presentsHsStart_of_nil hc]
  · simp [exec, execHLocked, hb, hs, State.presentsHsStart_of_cons hc, State.raiseRejected, State.emit, State.log]
  · simp [exec, execHLocked, State.presentsHsStart_of_nil hc]

/-! ### Runs of the handshake (R152, R154, R155) -/

/-- A run in two parts. -/
theorem run_trans {m : Nat} {s t : State} (h : Host.Core.run core m s = .next t) (n : Nat) :
    Host.Core.run core (m + n) s = Host.Core.run core n t := by
  induction m generalizing s with
  | zero =>
    obtain rfl := Host.Outcome.next.inj h
    rw [Nat.zero_add]
  | succ m ih =>
    rw [Nat.succ_add]
    cases e : step s with
    | next u =>
      rw [run_next _ s u e] at h ⊢
      exact ih h
    | fault r | refused r => simp [Host.Core.run, core, e] at h

section
variable {s : State} (hf : s.frm.state = .idle) (hr : s.rst = []) {r : Byte} (hb : s.rxAnswer 0 = some r)
include hf hr hb

/-- The step of a first reply. -/
theorem step_rxEcho (hh : s.hsm.state = .rxEcho) :
    step s = .next ((({ s with resValid := false } : State).rxTake.log (.rx r)).rxEchoByte r) := by
  rw [step_active s hf (by rw [hh]; rfl) hr, hh, hstepRow_eq]
  exact (if_pos hh).trans (State.onRead_of_byte _ _ r hb)

/-- The step of a reply in the confirm retry loop. -/
theorem step_rtyRx (hh : s.hsm.state = .rtyRx) :
    step s = .next ((({ s with resValid := false } : State).rxTake.log (.rx r)).rtyRxByte r) := by
  rw [step_active s hf (by rw [hh]; rfl) hr, hh, hstepRow_eq]
  exact (if_pos hh).trans (State.onRead_of_byte _ _ r hb)

end

/-- Settles O36: the steps of R154, one after the other. -/
theorem shortestHandshakeTakesEightSteps : Obligations.ShortestHandshakeTakesEightSteps := by
  intro s o a rest hf hh hr ho ha hx
  refine (run_next 7 _ _ (step_initClr s hf hr hh)).trans <|
    (run_next 6 _ _ (step_initEn _ (by exact hf) (by exact hr) (by rfl))).trans <|
    (run_next 5 _ _ (step_txInit _ (by exact hf) (by exact hr) (by rfl))).trans <|
    (run_next 4 _ _ (step_chkOvf _ (by exact hf) (by exact hr) (by rfl) false o (by exact ho))).trans <|
    (run_next 3 _ _ (step_chkAbd _ (by exact hf) (by exact hr) (by rfl) true a (by exact ha))).trans <|
    (run_next 2 _ _ (step_disAbd _ (by exact hf) (by exact hr) (by rfl))).trans <|
    (run_next 1 _ _ (step_txConf _ (by exact hf) (by exact hr) (by rfl))).trans <|
    (run_next 0 _ _ (step_rxEcho (by exact hf) (by exact hr) (State.rxAnswer_cons _ _ rest (by exact hx)) (by rfl))).trans ?_
  rw [State.rxEchoByte_confirm (by rfl), State.lock_log, State.rxTake_cons _ _ rest (by exact hx)]
  simp [Host.Core.run]

/-- The state `t` is in the confirm retry loop, `n` replies after `s`: for each of them one confirm byte was sent, and no result
was emitted. -/
structure InRetryLoop (s : State) (n : Nat) (t : State) : Prop where
  framer : t.frm.state = .idle
  noReset : t.rst = []
  handshake : t.hsm.state = .rtyTx
  ctl : t.ctl = s.ctl
  lastRes : t.lastRes = s.lastRes
  rx : t.rx = s.rx.drop n
  answers : ∀ k, t.rxAnswer k = s.rxAnswer (n + k)
  sent : sentBytes t.trace = sentBytes s.trace ++ List.replicate n s.ctl.confirm

/-- Of a confirm byte sent and a reply read, the trace has one more byte sent. -/
theorem sentBytes_round (tr : List Event) (c r : Byte) : sentBytes (tr ++ [.tx c] ++ [.rx r]) = sentBytes tr ++ [c] := by
  rw [sentBytes_append, sentBytes_append]
  exact List.append_nil _

section
variable {s t : State} {n : Nat}

/-- A first reply that is the fail or the raw baud-lock byte enters the loop (R144, R145). -/
theorem InRetryLoop.enter (hf : s.frm.state = .idle) (hr : s.rst = []) (hh : s.hsm.state = .txConf) {r : Byte}
    (hb : s.rxAnswer 0 = some r) (hc : r ≠ s.ctl.confirm) (hretry : r = s.ctl.fail ∨ r = s.ctl.rawlock) :
    ∃ t, Host.Core.run core 2 s = .next t ∧ InRetryLoop s 1 t := by
  refine ⟨_, (run_next 1 _ _ (step_txConf s hf hr hh)).trans <|
    run_next 0 _ _ (step_rxEcho (by exact hf) (by exact hr) (by exact hb) (by rfl)), ?_⟩
  rw [State.rxEchoByte_retry (by exact hc) (by exact hretry)]
  exact ⟨hf, hr, rfl, rfl, rfl, List.drop_one.symm, fun k => (s.rxTake_rxAnswer k).trans (by rw [Nat.add_comm]),
    sentBytes_round s.trace s.ctl.confirm r⟩

/-- Any further reply but the confirm byte goes round the loop once more (R146, R147). -/
theorem InRetryLoop.again (loop : InRetryLoop s n t) {r : Byte} (hb : s.rxAnswer n = some r) (hc : r ≠ s.ctl.confirm) :
    ∃ u, Host.Core.run core 2 t = .next u ∧ InRetryLoop s (n + 1) u := by
  obtain ⟨framer, noReset, handshake, ctl, lastRes, rx, answers, sent⟩ := loop
  obtain ⟨_, e, rfl⟩ := retry_round t framer noReset handshake r ((answers 0).trans hb) (ctl ▸ hc)
  refine ⟨_, e, framer, noReset, handshake, ctl, lastRes, ?_, fun k => ?_, ?_⟩
  · simp [rx]
  · calc t.rxTake.rxAnswer k
      _ = t.rxAnswer (k + 1) := t.rxTake_rxAnswer k
      _ = s.rxAnswer (n + 1 + k) := by rw [answers, Nat.add_right_comm n 1 k, Nat.add_assoc]
  · rw [List.append_cons, sentBytes_round, sent, ctl, List.replicate_succ', List.append_assoc]

/-- The loop has no bound of its own (R152): it is still entered after any number of replies that are not the confirm byte. -/
theorem exists_inRetryLoop (hf : s.frm.state = .idle) (hr : s.rst = []) (hh : s.hsm.state = .txConf) {r : Byte}
    (hb : s.rxAnswer 0 = some r) (hretry : r = s.ctl.fail ∨ r = s.ctl.rawlock) (n : Nat)
    (hreplies : ∀ k ≤ n, ∃ b, s.rxAnswer k = some b ∧ b ≠ s.ctl.confirm) :
    ∃ t, Host.Core.run core (2 * (n + 1)) s = .next t ∧ InRetryLoop s (n + 1) t := by
  induction n with
  | zero =>
    obtain ⟨b, hb', hc⟩ := hreplies 0 le_rfl
    obtain rfl : r = b := Option.some.inj (hb.symm.trans hb')
    exact InRetryLoop.enter hf hr hh hb hc hretry
  | succ n ih =>
    obtain ⟨t, e, loop⟩ := ih fun k hk => hreplies k (Nat.le_succ_of_le hk)
    obtain ⟨b, hb', hc⟩ := hreplies (n + 1) le_rfl
    obtain ⟨u, e', loop'⟩ := loop.again hb' hc
    exact ⟨u, (run_trans e 2).trans e', loop'⟩

/-- The answers of a channel whose list begins with the bytes `bytes` and then `c`. -/
theorem State.rxAnswer_of_listed {bytes : List Byte} {c : Byte} {rest : List (Option Byte)}
    (hx : s.rx = bytes.map some ++ some c :: rest) :
    (∀ k (hk : k < bytes.length), s.rxAnswer k = some bytes[k]) ∧ s.rxAnswer bytes.length = some c := by
  refine ⟨fun k hk => ?_, ?_⟩
  · simp [State.rxAnswer, hx, List.getElem?_append, hk]
  · simp [State.rxAnswer, hx]

/-- The confirm byte ends the loop: one more confirm byte is sent, and the block locks (R146, R147, R149). -/
theorem InRetryLoop.lock (loop : InRetryLoop s n t) (hb : s.rxAnswer n = some s.ctl.confirm) :
    ∃ u, Host.Core.run core 2 t = .next u ∧ u.hsm.state = .locked ∧ u.hsm.locked = true ∧ u.lastRes = .hsLocked ∧
      u.rx = s.rx.drop (n + 1) ∧ sentBytes u.trace = sentBytes s.trace ++ List.replicate (n + 1) s.ctl.confirm := by
  obtain ⟨framer, noReset, handshake, ctl, lastRes, rx, answers, sent⟩ := loop
  refine ⟨_, (run_next 1 _ _ (step_rtyTx t framer noReset handshake)).trans <|
    run_next 0 _ _ (step_rtyRx (by exact framer) (by exact noReset) (by exact (answers 0).trans hb) (by rfl)), ?_⟩
  rw [State.rtyRxByte_confirm (by exact ctl ▸ rfl)]
  refine ⟨rfl, rfl, rfl, ?_, ?_⟩
  · simp [rx]
  · show sentBytes (t.trace ++ [.tx t.ctl.confirm] ++ [.rx s.ctl.confirm] ++ [.result .hsLocked]) = _
    refine (sentBytes_append _ _).trans ((List.append_nil _).trans ?_)
    rw [sentBytes_round, sent, ctl, List.replicate_succ', List.append_assoc]

end

/-- Settles O37: the replies before the confirm byte keep the block in the loop, however many they are; the confirm byte locks
it. -/
theorem retryLoopSendsOneConfirmPerReply : Obligations.RetryLoopSendsOneConfirmPerReply := by
  refine ⟨fun s r replies rest hf hh hr hc hretry hreplies hx => ?_, fun s r n hf hh hr hb hretry hreplies => ?_⟩
  · have all : ∀ x ∈ r :: replies, x ≠ s.ctl.confirm := List.forall_mem_cons.mpr ⟨hc, hreplies⟩
    obtain ⟨listed, last⟩ := State.rxAnswer_of_listed hx
    obtain ⟨t, e, loop⟩ := exists_inRetryLoop hf hr hh (listed 0 (Nat.zero_lt_succ _)) hretry replies.length fun k hk =>
      ⟨_, listed k (Nat.lt_succ_of_le hk), all _ (List.getElem_mem _)⟩
    obtain ⟨u, e', hstate, hlocked, hres, hrx, hsent⟩ := loop.lock last
    refine ⟨u, (run_trans e 2).trans e', hstate, hlocked, hres, ?_, hsent⟩
    rw [hrx, hx, List.append_cons]
    exact List.drop_left' (by simp)
  · obtain ⟨t, e, loop⟩ := exists_inRetryLoop hf hr hh hb hretry n hreplies
    exact ⟨t, e, loop.handshake, by simp [State.busy, loop.handshake, HState.active], loop.lastRes, loop.sent⟩

end Sys2Proof.Machine
end

/-! Reads of the channel and whole frames (20_memory.md section 7, 41_packet_framer.md sections 4 to 6): what a silent channel
does, and that the framer takes exactly a frame's bytes. -/

section
namespace Sys2Proof.Machine

/-! ### A channel with no byte (R47, R193) -/

/-- A state that waits for a byte is busy (R27, R59). -/
theorem State.busy_of_waitsRx {s : State} (hw : s.waitsRx = true) : s.busy = true := by
  simp only [State.waitsRx, Bool.or_eq_true, bne_iff_ne, beq_iff_eq] at hw
  rcases hw with (hf | hh) | hh
  · simp [State.busy, hf]
  · simp [State.busy, hh, HState.active]
  · simp [State.busy, hh, HState.active]

/-- The step of a state that waits for a byte, with none on the channel, is the attempt and nothing else. -/
theorem step_of_silence {s : State} (hw : s.waitsRx = true) (hx : s.rxAnswer 0 = none) (hr : s.rst.head? ≠ some true) :
    step s = .next s.beginStep.noByte := by
  have silent (k : Byte → State → Outcome) : s.beginStep.onRead k = .next s.beginStep.noByte :=
    s.beginStep.onRead_of_none k ((State.rxAnswer_congr _ _ 0 rfl rfl).trans hx)
  by_cases hf : s.frm.state = .idle
  · have hh : s.hsm.state = .rxEcho ∨ s.hsm.state = .rtyRx := by simpa [State.waitsRx, hf] using hw
    rcases hh with hh | hh
    · rw [step_of_handshake hf (by rw [hh]; rfl) hr, hh]
      exact (if_pos hh).trans (silent _)
    · rw [step_of_handshake hf (by rw [hh]; rfl) hr, hh]
      exact (if_pos hh).trans (silent _)
  · rw [step_of_framer hf hr, silent]

/-- As long as the channel is silent a run changes no register and adds no event. -/
theorem run_of_silence (n : Nat) {s : State} (hw : s.waitsRx = true) (hr : s.rst = [])
    (hx : ∀ k < n, s.rxAnswer k = none) :
    ∃ t, Host.Core.run core n s = .next t ∧ s.sameRegs t = true ∧ t.trace = s.trace ∧ t.busy = true := by
  induction n generalizing s with
  | zero => exact ⟨s, rfl, by simp [State.sameRegs], rfl, State.busy_of_waitsRx hw⟩
  | succ n ih =>
    have hnext (k : Nat) : s.beginStep.noByte.rxAnswer k = s.rxAnswer (k + 1) := s.beginStep.rxTake_rxAnswer k
    obtain ⟨t, e, same, trace, hb⟩ := ih (s := s.beginStep.noByte) hw (by simp [hr]) fun k hk =>
      (hnext k).trans (hx _ (by omega))
    exact ⟨t, (run_next n _ _ (step_of_silence hw (hx 0 (by omega)) (by simp [hr]))).trans e, same, trace, hb⟩

/-- Settles O14: a stuck state's step is the attempt, and a silent channel is attempt after attempt. -/
theorem blockingReadsWait : Obligations.BlockingReadsWait := by
  refine ⟨fun s hs hr => ?_, fun n s hw hr hx => run_of_silence n hw hr hx⟩
  simp only [State.stuck, Bool.and_eq_true, Option.isNone_iff_eq_none] at hs
  obtain ⟨hw, hx⟩ := hs
  have hx : s.rxAnswer 0 = none := by
    cases h : s.rxAnswer 0 with
    | none => rfl
    | some b => simp [State.chRead, h] at hx
  exact ⟨⟨_, step_of_silence hw hx hr, rfl⟩, State.busy_of_waitsRx hw⟩

/-! ### The body of a frame, byte by byte (R94 to R99) -/

/-- What the bytes after the header need of a body in flight to have a rule each (R99): no cause is set past validation only if
the frame is well-formed. -/
def Framer.bodyRuled (f : Framer) : Prop :=
  f.malf = .none → 4 ≤ f.pktNBytes.toNat ∧
    (4 ≤ f.idx.toNat → f.bufNBytes.toNat ≤ 50 ∧ f.pktNBytes.toNat = f.bufNBytes.toNat + 5)

/-- A header byte writes Frame registers only, as the ones before it determine. -/
theorem State.headerByte_congr {s w : State} (b : Byte) (h : w.frm = s.frm) :
    w.headerByte b = { w with frm := (s.headerByte b).frm } := by
  unfold State.headerByte
  simp only [State.validateHeader_eq, h]
  split_ifs <;> rfl

/-- What is left of a header once a byte of it is recorded is still ruled: by its length, and after its last byte by the
validation (R95). -/
theorem State.headerByte_ruled (b : Byte) {s : State} (hruled : s.frm.bodyRuled) (hi : s.frm.idx.toNat ≤ 3) :
    ∃ t n m, s.headerByte b = { s with frm := { s.frm with pktType := t, bufNBytes := n, malf := m } } ∧
      Framer.bodyRuled { s.frm with pktType := t, bufNBytes := n, malf := m, idx := s.frm.idx + 1#16 } := by
  by_cases hlt : s.frm.idx.toNat ≤ 2
  · obtain ⟨t, n, m, e, hm⟩ := State.headerByte_spec b s
    obtain rfl := hm hlt
    refine ⟨t, n, _, e, fun hmalf => ⟨(hruled hmalf).1, fun h => ?_⟩⟩
    dsimp only at h
    bv_omega
  · have h3 : s.frm.idx = 3#16 := BitVec.eq_of_toNat_eq (show s.frm.idx.toNat = 3 by omega)
    refine ⟨_, _, _, State.headerByte_three b h3 rfl, fun hmalf => ?_⟩
    cases hv : validate s.frm.pktNBytes (s.frm.bufNBytes.extractLsb' 8 8 ++ b) with
    | some m => exact absurd (by simpa [hv] using hmalf) (validate_ne_none hv)
    | none =>
      obtain ⟨hp, -⟩ := hruled (by simpa [hv] using hmalf)
      exact ⟨hp, fun _ => validate_eq_none_iff.mp hv⟩

/-- A body byte writes Frame registers and the sum, as the ones before it determine, and the read advances. -/
theorem State.bodyByte_ruled (s : State) (b : Byte) (hruled : s.frm.bodyRuled) (hidx : s.frm.idx.toNat < s.frm.pktNBytes.toNat) :
    ∃ f a, (∀ w : State, w.frm = s.frm → w.cse = s.cse →
        w.bodyByte b = .next ({ w with frm := f, cse := { w.cse with acc := a } } : State).advance) ∧
      f.state = s.frm.state ∧ f.idx = s.frm.idx ∧ f.pktNBytes = s.frm.pktNBytes ∧
      Framer.bodyRuled { f with idx := f.idx + 1#16 } := by
  by_cases hi : s.frm.idx.toNat ≤ 3
  · obtain ⟨t, n, m, e, hruled'⟩ := State.headerByte_ruled b hruled hi
    refine ⟨(s.headerByte b).frm, s.cse.acc, fun w hf hc => ?_, ?_⟩
    · rw [State.bodyByte_header (by rw [hf]; exact hi) (State.headerByte_congr b hf), ← hc]
    · rw [e]
      exact ⟨rfl, rfl, rfl, hruled'⟩
  have hi : 4 ≤ s.frm.idx.toNat := by omega
  by_cases hm : s.frm.malf = .none
  · obtain ⟨hp, hgood⟩ := hruled hm
    obtain ⟨hb, hpb⟩ := hgood hi
    by_cases hlt : s.frm.idx.toNat < 4 + s.frm.bufNBytes.toNat
    · refine ⟨(s.storePayload b).frm, (s.storePayload b).cse.acc, fun w hf hc => ?_, rfl, rfl, rfl,
        fun _ => ⟨hp, fun _ => ⟨hb, hpb⟩⟩⟩
      rw [← hf] at hi hm hb hlt
      rw [State.bodyByte_payload b hi hm hb hlt, State.storePayload_frm, State.storePayload_cse, ← hf, ← hc]
      rfl
    · refine ⟨{ s.frm with rxCsum := b }, s.cse.acc, fun w hf hc => ?_, rfl, rfl, rfl,
        fun _ => ⟨hp, fun _ => ⟨hb, hpb⟩⟩⟩
      rw [← hf] at hi hm hpb hlt hidx ⊢
      rw [State.bodyByte_checksum b hm (by omega), ← hc]
  · refine ⟨s.frm, s.cse.acc, fun w hf hc => ?_, rfl, rfl, rfl, fun h => absurd h hm⟩
    rw [← hf] at hi hm ⊢
    rw [State.bodyByte_drain b hi hm, ← hc]

/-! ### The steps of a read against the run over its bytes (R101, R103) -/

/-- The step of a read in flight with the byte `b` on the channel (R47). -/
theorem step_of_byte {s : State} {b : Byte} {tail : List (Option Byte)} (hs : s.frm.state ≠ .idle) (hr : s.rst = [])
    (hx : s.rx = some b :: tail) :
    step s = State.framerByte b { s with rx := tail, resValid := false, trace := s.trace ++ [.rx b] } := by
  rw [step_of_framer hs (by simp [hr]), State.onRead_of_cons (by exact hx)]
  simp [State.beginStep, State.strobeLow, State.log, hr]

/-- From `s` the steps on the bytes `bytes` of the channel, with `rest` behind them, end the read in `u`; so does the framer's run
over them, in `s` with the channel past them, whatever the strobe was. -/
structure ReadsToEnd (s : State) (bytes : List Byte) (rest : List (Option Byte)) (u : State) : Prop where
  run : Host.Core.run core bytes.length s = .next u
  feed : ∀ v, State.feed bytes { s with rx := rest, resValid := v } = .next u
  idle : u.frm.state = .idle
  rx : u.rx = rest
  trace : u.trace = s.trace ++ bytes.map .rx ++ [.result u.lastRes]

section
variable {s : State} (hs : s.frm.state ≠ .idle) (hr : s.rst = []) {b : Byte} {f : Framer} {a : Byte}
  {rest : List (Option Byte)}
include hs hr

/-- A byte that ends the read: completion raises the strobe, whatever it was. -/
theorem ReadsToEnd.of_last (hx : s.rx = some b :: rest)
    (hb : ∀ w : State, w.frm = s.frm → w.cse = s.cse →
      w.framerByte b = .next ({ w with frm := f, cse := { w.cse with acc := a } } : State).complete) :
    ∃ u, ReadsToEnd s [b] rest u := by
  have hstep := (step_of_byte hs hr hx).trans (hb _ rfl rfl)
  obtain ⟨smp, cnt, c, e, -⟩ := State.complete_spec { s with
    frm := f, cse := { s.cse with acc := a }, rx := rest, resValid := false, trace := s.trace ++ [.rx b] }
  refine ⟨_, run_next 0 s _ hstep, fun v => State.feed_cons (by exact hs) (hb _ rfl rfl), ?_, ?_, ?_⟩ <;> rw [e] <;> rfl

/-- A byte with which the read goes on. -/
theorem ReadsToEnd.of_next {bs : List Byte} {u : State} (hx : s.rx = (b :: bs).map some ++ rest)
    (hb : ∀ w : State, w.frm = s.frm → w.cse = s.cse →
      w.framerByte b = .next { w with frm := f, cse := { w.cse with acc := a } })
    (hu : ReadsToEnd ({ s with
      frm := f, cse := { s.cse with acc := a }, rx := bs.map some ++ rest, resValid := false, trace := s.trace ++ [.rx b] })
      bs rest u) : ReadsToEnd s (b :: bs) rest u := by
  obtain ⟨run, feed, idle, rx, trace⟩ := hu
  refine ⟨?_, fun v => ?_, idle, rx, ?_⟩
  · exact (run_next bs.length s _ ((step_of_byte hs hr hx).trans (hb _ rfl rfl))).trans run
  · exact (State.feed_cons (s := { s with rx := rest, resValid := v }) hs (hb _ rfl rfl)).trans (feed v)
  · simp [trace]

end

/-- The rest of a body, from any byte of it on. -/
theorem exists_readsToEnd_body (bs : List Byte) {s : State} {rest : List (Option Byte)} (hs : s.frm.state = .body)
    (hr : s.rst = []) (hx : s.rx = bs.map some ++ rest) (hruled : s.frm.bodyRuled) (hne : bs ≠ [])
    (hlen : s.frm.idx.toNat + bs.length = s.frm.pktNBytes.toNat) : ∃ u, ReadsToEnd s bs rest u := by
  induction bs generalizing s with
  | nil => exact absurd rfl hne
  | cons b bs ih =>
    rw [List.length_cons] at hlen
    have hidx : s.frm.idx.toNat < s.frm.pktNBytes.toNat := by omega
    obtain ⟨f, a, hb, hstate, hfidx, hp, hruled'⟩ := State.bodyByte_ruled s b hruled hidx
    have hbyte (w : State) (hf : w.frm = s.frm) (hc : w.cse = s.cse) :
        w.framerByte b = .next ({ w with frm := f, cse := { w.cse with acc := a } } : State).advance := by
      rw [State.framerByte, hf, hs]
      exact hb w hf hc
    cases bs with
    | nil =>
      refine ReadsToEnd.of_last (f := f) (a := a) (by simp [hs]) hr hx fun w hf hc => ?_
      rw [hbyte w hf hc, State.advance_of_eq (by simpa [hfidx, hp] using hlen)]
    | cons c bs =>
      rw [List.length_cons] at hlen
      have hnext := toNat_idx_succ hidx
      obtain ⟨u, hu⟩ := ih (s := { s with
          frm := { f with idx := f.idx + 1#16 }, cse := { s.cse with acc := a }, rx := (c :: bs).map some ++ rest,
          resValid := false, trace := s.trace ++ [.rx b] })
        (hstate.trans hs) hr rfl hruled' (List.cons_ne_nil c bs) (by simp only [hfidx, hp, hnext, List.length_cons]; omega)
      refine ⟨u, ReadsToEnd.of_next (by simp [hs]) hr hx (fun w hf hc => ?_) hu⟩
      rw [hbyte w hf hc, State.advance_of_ne (by simp only [hfidx, hp]; omega)]

section
variable {s : State} {p : Half} {body : List Byte} {rest : List (Option Byte)} (hr : s.rst = [])
  (hlen : body.length = p.toNat)
include hr hlen

/-- The second length byte and the body. -/
theorem exists_readsToEnd_len1 (hs : s.frm.state = .len1) (hp : p = s.frm.pktNBytes.extractLsb' 8 8 ++ loByte p)
    (hx : s.rx = (loByte p :: body).map some ++ rest) : ∃ u, ReadsToEnd s (loByte p :: body) rest u := by
  have hbyte (w : State) (hf : w.frm = s.frm) : w.framerByte (loByte p) = .next (w.len1Byte (loByte p)) := by
    rw [State.framerByte, hf, hs]
  by_cases h0 : p = 0#16
  · obtain rfl : body = [] := List.length_eq_zero_iff.mp (by rw [hlen, h0]; rfl)
    refine ReadsToEnd.of_last (f := { s.frm with pktNBytes := p, malf := .hdrTrunc }) (a := s.cse.acc) (by simp [hs]) hr hx
      fun w hf hc => ?_
    rw [hbyte w hf, State.len1Byte_zero (by rw [hf]; exact hp) h0, State.complete_of_malf (by simp), hf, ← hc]
  · have hne : body ≠ [] := by
      rintro rfl
      exact h0 (BitVec.eq_of_toNat_eq hlen.symm)
    obtain ⟨u, hu⟩ := exists_readsToEnd_body body (rest := rest) (s := { s with
        frm := { s.frm with
          pktNBytes := p, malf := if p.toNat < 4 then .hdrTrunc else s.frm.malf, idx := 0#16, state := .body }
        rx := body.map some ++ rest, resValid := false, trace := s.trace ++ [.rx (loByte p)] })
      rfl hr rfl (fun hm => ⟨by by_contra h; simp [Nat.lt_of_not_le h] at hm, nofun⟩) hne (by simp [hlen])
    refine ⟨u, ReadsToEnd.of_next (a := s.cse.acc) (by simp [hs]) hr hx (fun w hf hc => ?_) hu⟩
    rw [hbyte w hf, State.len1Byte_ne_zero (by rw [hf]; exact hp) h0, hf, ← hc]

/-- A whole frame, whatever its bytes are. -/
theorem exists_readsToEnd_frame (hs : s.frm.state = .len0) (hx : s.rx = (hiByte p :: loByte p :: body).map some ++ rest) :
    ∃ u, ReadsToEnd s (hiByte p :: loByte p :: body) rest u := by
  obtain ⟨u, hu⟩ := exists_readsToEnd_len1 (rest := rest) (s := { s with
      frm := { s.frm with pktNBytes := beHalf (hiByte p) 0x00#8, state := .len1 }
      rx := (loByte p :: body).map some ++ rest, resValid := false, trace := s.trace ++ [.rx (hiByte p)] })
    hr hlen rfl (by simp [beHalf, high_of_append, hiByte_append_loByte]) rfl
  refine ⟨u, ReadsToEnd.of_next (a := s.cse.acc) (by simp [hs]) hr hx (fun w hf hc => ?_) hu⟩
  rw [State.framerByte, hf, hs, ← hf, ← hc]
  rfl

end

/-- Settles O17: step by step the framer takes the bytes of the frame, as its run over them does, until the last one. -/
theorem stepsConsumeExactlyTheFrame : Obligations.StepsConsumeExactlyTheFrame := by
  intro s p body rest hs hr hlen hx
  obtain ⟨u, run, feed, idle, rx, trace⟩ := exists_readsToEnd_frame hr hlen hs hx
  have hexec : exec (.frame p body) { s with rx := rest } = .next u := (if_pos hs).trans (feed s.resValid)
  have hrun : Host.Core.run core (2 + p.toNat) s = .next u := by
    rw [← run, ← hlen, List.length_cons, List.length_cons, Nat.add_comm 2]
  exact ⟨hrun.trans hexec.symm, u, hexec, idle, rx, trace⟩

/-! ### A well-formed frame from the start of a read (R94 to R97, R102) -/

section
variable {s : State} {p : Half}

/-- A header is recorded byte by byte. -/
theorem State.feed_recorded_header (head : List Byte) {body : List Byte} (rest : List Byte)
    (hhead : body.length + head.length ≤ 4) (hp : body.length + head.length < p.toNat) :
    (s.recorded p body body.length).feed (head ++ rest) = (s.recorded p (body ++ head) (body ++ head).length).feed rest := by
  induction head generalizing body with
  | nil => rw [List.nil_append, List.append_nil]
  | cons b head ih =>
    rw [List.length_cons] at hhead hp
    have hbyte := State.bodyByte_recorded (s := s) (p := p) (body := body) b (by omega) (by omega)
    have hlen : (body ++ [b]).length = body.length + 1 := List.length_append
    rw [List.cons_append, State.feed_cons (s := s.recorded p body body.length) nofun hbyte, State.recorded_advance (by omega),
      List.append_cons body b head]
    exact ih (by omega) (by omega)

end

/-- The state `s` in the body of a well-formed frame, with the payload bytes `payload` received since and `pay` in `PAY`. -/
def State.stored (s : State) (pay : Memory) (payload : List Byte) : State :=
  { s with
    frm := { s.frm with
      pay := pay, payLen := BitVec.ofNat 6 payload.length, idx := BitVec.ofNat 16 (4 + payload.length) }
    cse := { s.cse with acc := checksum payload }
    trace := s.trace ++ payload.map .rx }

/-- The state `s` with the checksum byte `c` received (R97). -/
def State.withChecksumByte (s : State) (c : Byte) : State :=
  { s.log (.rx c) with frm := { s.frm with rxCsum := c } }

section
variable {s : State} {pay : Memory} {payload : List Byte}

theorem State.stored_idx (hlen : payload.length ≤ 50) : (s.stored pay payload).frm.idx.toNat = 4 + payload.length :=
  Nat.mod_eq_of_lt (by omega)

theorem State.stored_payLen (hlen : payload.length ≤ 50) : (s.stored pay payload).frm.payLen.toNat = payload.length :=
  Nat.mod_eq_of_lt (by omega)

theorem State.stored_payload (hlen : payload.length ≤ 50) (hbytes : Memory.bytes pay payload.length = payload) :
    (s.stored pay payload).payload = payload := by
  rw [State.payload, State.stored_payLen hlen]
  exact hbytes

/-- With nothing received yet. -/
theorem State.stored_nil (hidx : s.frm.idx = 4#16) (hlen : s.frm.payLen = 0#6) (hacc : s.cse.acc = 0x00#8) :
    s.stored s.frm.pay [] = s := by
  simp [State.stored, ← hidx, ← hlen, ← hacc]

variable (hs : s.frm.state = .body) (hm : s.frm.malf = .none) (hb : s.frm.bufNBytes.toNat ≤ 50)
  (hp : s.frm.pktNBytes.toNat = s.frm.bufNBytes.toNat + 5)
include hs hm hb hp

/-- One more payload byte (R96). -/
theorem State.framerByte_stored (b : Byte) (hlen : payload.length < s.frm.bufNBytes.toNat) :
    ((s.stored pay payload).log (.rx b)).framerByte b =
      .next (s.stored (Memory.write pay payload.length b) (payload ++ [b])) := by
  have hidx := State.stored_idx (s := s) (pay := pay) (payload := payload) (by omega)
  have hbody : ((s.stored pay payload).log (.rx b)).framerByte b = ((s.stored pay payload).log (.rx b)).bodyByte b := by
    simp [State.framerByte, State.stored, hs]
  have hstore : ((s.stored pay payload).log (.rx b)).bodyByte b =
      .next (((s.stored pay payload).log (.rx b)).storePayload b).advance :=
    State.bodyByte_payload b (hidx.ge.trans' (Nat.le_add_right ..)) hm hb (hidx.trans_lt (Nat.add_lt_add_left hlen 4))
  have haddr : (BitVec.ofNat 16 (4 + payload.length)).toNat - 4 = payload.length := by simp; omega
  have hcount : (BitVec.ofNat 16 (4 + payload.length)).toNat - 3 = payload.length + 1 := by simp; omega
  have hnext : BitVec.ofNat 16 (4 + payload.length) + 1#16 = BitVec.ofNat 16 (4 + (payload.length + 1)) := by
    rw [← BitVec.ofNat_add, Nat.add_assoc]
  rw [hbody, hstore, State.advance_of_ne (hidx ▸ (by omega : 4 + payload.length + 1 ≠ s.frm.pktNBytes.toNat))]
  simp only [State.stored, State.storePayload, State.csAccumulate, State.log, addByte, haddr, hcount, hnext,
    checksum_append_singleton, List.length_append, List.length_singleton, List.map_append, List.map_cons, List.map_nil,
    List.append_assoc]

/-- All of the payload. -/
theorem State.feed_payload (hwf : Memory.wf s.frm.pay = true) (hidx : s.frm.idx = 4#16) (hlen0 : s.frm.payLen = 0#6)
    (hacc : s.cse.acc = 0x00#8) (payload rest : List Byte) (hlen : payload.length ≤ s.frm.bufNBytes.toNat) :
    ∃ pay, Memory.wf pay = true ∧ Memory.bytes pay payload.length = payload ∧
      s.feed (payload ++ rest) = (s.stored pay payload).feed rest := by
  induction payload using List.reverseRecOn generalizing rest with
  | nil => exact ⟨s.frm.pay, hwf, rfl, by rw [State.stored_nil hidx hlen0 hacc]; rfl⟩
  | append_singleton payload b ih =>
    have hlt : payload.length < s.frm.bufNBytes.toNat := by simpa using hlen
    obtain ⟨pay, payWf, bytes, e⟩ := ih (b :: rest) hlt.le
    refine ⟨Memory.write pay payload.length b, Memory.wf_write _ _ b payWf (by unfold payCap; omega), ?_, ?_⟩
    · rw [List.length_append, List.length_singleton, Memory.bytes_write_end _ _ b payWf, bytes]
    · rw [← List.append_cons, e, State.feed_cons (by simp [State.stored, hs]) (State.framerByte_stored hs hm hb hp b hlt)]

/-- The checksum byte ends the read (R97). -/
theorem State.feed_checksum (c : Byte) (hlen : payload.length = s.frm.bufNBytes.toNat) :
    (s.stored pay payload).feed [c] = .next ((s.stored pay payload).withChecksumByte c).complete := by
  have hidx := State.stored_idx (s := s) (pay := pay) (payload := payload) (by omega)
  have hbyte : ((s.stored pay payload).log (.rx c)).framerByte c = ((s.stored pay payload).log (.rx c)).bodyByte c := by
    simp [State.framerByte, State.stored, hs]
  have hlast : ((s.stored pay payload).log (.rx c)).bodyByte c = .next ((s.stored pay payload).withChecksumByte c).advance :=
    State.bodyByte_checksum c hm (hidx.trans (by rw [hlen]; rfl))
  rw [State.feed_cons (by simp [State.stored, hs]) (hbyte.trans hlast)]
  rw [State.advance_of_eq (hidx ▸ (by omega : 4 + payload.length + 1 = s.frm.pktNBytes.toNat))]
  rfl

end

/-- The header bytes of a well-formed frame of type `t` with `n` payload bytes (R61, R64). -/
def goodHeader (t : Half) (n : Nat) : List Byte := [hiByte t, loByte t, 0x00#8, BitVec.ofNat 8 n]

theorem bodyField_goodHeader_type (t : Half) (n : Nat) : bodyField (goodHeader t n) 0 = t := hiByte_append_loByte t

theorem bodyField_goodHeader_length (t : Half) {n : Nat} (hn : n ≤ 50) :
    bodyField (goodHeader t n) 2 = BitVec.ofNat 16 n := by
  apply BitVec.eq_of_toNat_eq
  show (0x00#8 ++ BitVec.ofNat 8 n).toNat = _
  rw [toNat_append_eq_add]
  simp
  omega

theorem frameCause_goodHeader {p : Half} (t : Half) {n : Nat} (hn : n ≤ 50) (hp : p.toNat = n + 5) :
    frameCause p (goodHeader t n) = .none := by
  have hlen : (BitVec.ofNat 16 n).toNat = n := Nat.mod_eq_of_lt (by omega)
  have hvalid : validate p (BitVec.ofNat 16 n) = none := validate_eq_none_iff.mpr (by rw [hlen]; exact ⟨hn, hp⟩)
  rw [frameCause, if_neg (by omega), if_neg (by simp [goodHeader]), bodyField_goodHeader_length t hn, hvalid]
  rfl

/-- A whole well-formed frame: its header recorded, its payload stored, and the read completed on its checksum byte. -/
theorem State.feed_wellFormed {s : State} {p t : Half} {payload : List Byte} (c : Byte) (hs : s.readStarted)
    (hwf : Memory.wf s.frm.pay = true) (hn : payload.length ≤ 50) (hp : p.toNat = payload.length + 5) :
    ∃ pay, Memory.bytes pay payload.length = payload ∧
      s.feed (hiByte p :: loByte p :: (goodHeader t payload.length ++ payload ++ [c])) =
        .next (((s.recorded p (goodHeader t payload.length) 4).stored pay payload).withChecksumByte c).complete := by
  have ⟨hfrm, hacc⟩ := hs
  have h0 : p ≠ 0#16 := by
    rintro rfl
    simp at hp
  have hlen : (bodyField (goodHeader t payload.length) 2).toNat = payload.length := by
    rw [bodyField_goodHeader_length t hn]
    exact Nat.mod_eq_of_lt (by omega)
  have hmalf := frameCause_goodHeader t hn hp
  have hb : (bodyField (goodHeader t payload.length) 2).toNat ≤ 50 := hlen.trans_le hn
  have hpb : p.toNat = (bodyField (goodHeader t payload.length) 2).toNat + 5 := by rw [hlen, hp]
  obtain ⟨pay, -, bytes, hpay⟩ := State.feed_payload (s := s.recorded p (goodHeader t payload.length) 4) rfl hmalf hb hpb hwf
    rfl (congrArg Framer.payLen hfrm) hacc payload [c] hlen.ge
  refine ⟨pay, bytes, ?_⟩
  have hhead := State.feed_recorded_header (s := s) (p := p) (body := []) (goodHeader t payload.length) (payload ++ [c])
    le_rfl (show 0 + 4 < p.toNat by omega)
  calc s.feed (hiByte p :: loByte p :: (goodHeader t payload.length ++ payload ++ [c]))
    _ = (s.recorded p [] 0).feed (goodHeader t payload.length ++ (payload ++ [c])) := by
      rw [State.feed_length_ne_zero hs h0, List.append_assoc]
    _ = (s.recorded p (goodHeader t payload.length) 4).feed (payload ++ [c]) := hhead
    _ = ((s.recorded p (goodHeader t payload.length) 4).stored pay payload).feed [c] := hpay
    _ = .next _ := State.feed_checksum rfl hmalf hb hpb c hlen.symm

/-- Settles O15: the read completes on the state with the whole frame received, as a mismatch or by the row of its type. -/
theorem wellFormedFrameIsSplit : Obligations.WellFormedFrameIsSplit := by
  rintro s t p payload c hs hwf hn rfl
  have hp : (BitVec.ofNat 16 (payload.length + 5)).toNat = payload.length + 5 := Nat.mod_eq_of_lt (by omega)
  obtain ⟨pay, bytes, hfeed⟩ := State.feed_wellFormed (t := t) c hs hwf hn hp
  let w := s.recorded (BitVec.ofNat 16 (payload.length + 5)) (goodHeader t payload.length) 4
  have hmalf := frameCause_goodHeader t hn hp
  have hexec : exec (.frame _ (goodHeader t payload.length ++ payload ++ [c])) s = .next _ :=
    (if_pos (congrArg Framer.state hs.1)).trans hfeed
  refine ⟨(w.stored pay payload).withChecksumByte c, rfl, bodyField_goodHeader_type t _, bodyField_goodHeader_length t hn,
    State.stored_payLen (s := w) (pay := pay) hn, State.stored_payload (s := w) hn bytes, rfl, hmalf, rfl, rfl, rfl, rfl, rfl, ?_,
    fun hc => ?_, fun hc => ?_⟩
  · simp [w, State.withChecksumByte, State.stored, State.recorded, State.log, goodHeader]
  · refine hexec.trans ?_
    rw [State.complete_of_mismatch hmalf hc]
    rfl
  · refine hexec.trans ((State.complete_of_match hmalf hc).trans ?_)
    exact congrArg (fun t' => exec (decodePType t') _) (bodyField_goodHeader_type t payload.length)

end Sys2Proof.Machine
end

/-! The laws of the checksum and the sum a host drives (42_checksum_engine.md sections 2, 4 and 5). -/

section
namespace Sys2Proof.Machine

/-! ### The laws of R116 -/

theorem checksum_append (p q : List Byte) : checksum (p ++ q) = checksum p + checksum q := by
  simp [checksum_eq_sum]

/-- The order of the bytes does not matter. -/
theorem checksum_of_perm {p q : List Byte} (h : p.Perm q) : checksum p = checksum q := by
  rw [checksum_eq_sum, checksum_eq_sum, h.sum_eq]

/-- A changed byte changes the checksum by the difference. -/
theorem checksum_replace (p q : List Byte) (a b : Byte) : checksum (p ++ b :: q) = checksum (p ++ a :: q) + (b - a) := by
  simp only [checksum_append, checksum_cons]
  ring

/-- The true sum of at most `n` bytes is at most `255 n`. -/
theorem sum_toNat_le (p : List Byte) : (p.map BitVec.toNat).sum ≤ 255 * p.length := by
  induction p with
  | nil => exact le_rfl
  | cons b p ih =>
    rw [List.map_cons, List.sum_cons, List.length_cons]
    have := b.isLt
    omega

/-- Settles O19: the checksum is a sum in the ring of bytes. -/
theorem checksumLaws : Obligations.ChecksumLaws := by
  refine ⟨checksum_append, fun p q => checksum_of_perm, checksum_replace, fun p q a b hne => ?_, fun p q r a b d => ?_,
    fun p n => ?_, fun p hlen => ?_⟩
  · simpa [checksum_append] using hne
  · simp only [checksum_append, checksum_cons]
    ring
  · simp [checksum_eq_sum]
  · have := sum_toNat_le p
    omega

/-! ### The sum a host drives (R113, R117) -/

/-- The rest `q` of a host's program of accumulations adds up in `CS_ACC`, and writes nothing else but results. -/
theorem execAll_csAdd (q : List Byte) {s : State} (hb : s.busy = false) (hres : s.lastRes = .csDone) :
    ∃ t, execAll (q.map .csAdd) s = .next t ∧ t.cse = { s.cse with acc := s.cse.acc + checksum q } ∧ t.lastRes = .csDone ∧
      t.frm = s.frm ∧ t.smp = s.smp ∧ t.hsm = s.hsm := by
  induction q generalizing s with
  | nil => exact ⟨s, rfl, by simp, hres, rfl, rfl, rfl⟩
  | cons b q ih =>
    obtain ⟨t, e, hcse, hrest⟩ := ih (s := ((s.log (.csAdd b)).csAccumulate b).emit .csDone) hb rfl
    refine ⟨t, ?_, ?_, hrest⟩
    · simp only [List.map_cons, execAll, exec_csAdd_of_idle hb b, e]
    · rw [hcse, checksum_cons, ← add_assoc]
      rfl

/-- Settles O20: Clear leaves 0, to which the accumulations add the bytes in whatever order. -/
theorem hostDrivenSumIsTheChecksum : Obligations.HostDrivenSumIsTheChecksum := by
  intro s p q d hb hpq
  obtain ⟨t, e, hcse, hrest⟩ := execAll_csAdd q (s := (s.log .csClr).csClear.emit .csDone) hb rfl
  refine ⟨t, ?_, ?_, hrest⟩
  · simp only [execAll, exec_csClr_of_idle hb d, e]
  · rw [hcse, checksum_of_perm hpq]
    simp

end Sys2Proof.Machine
end

/-! `Q7toF32` (43_payload_decoder.md section 2): the pattern is the number `n / 128`. -/

section
namespace Sys2Proof.Machine

/-- The leading one of a number in 1 to `2^(k + 1) - 1`, as bounds. -/
theorem leadingOne_spec (k : Nat) {m : Nat} (h1 : 1 ≤ m) (hm : m < 2 ^ (k + 1)) :
    leadingOne k m ≤ k ∧ 2 ^ leadingOne k m ≤ m ∧ m < 2 ^ (leadingOne k m + 1) := by
  induction k with
  | zero => exact ⟨le_rfl, h1, hm⟩
  | succ k ih =>
    by_cases h : 2 ^ (k + 1) ≤ m
    · rw [leadingOne, if_pos h]
      exact ⟨le_rfl, h, hm⟩
    · rw [leadingOne, if_neg h]
      obtain ⟨hk, hlo, hhi⟩ := ih (Nat.lt_of_not_le h)
      exact ⟨hk.trans (Nat.le_succ k), hlo, hhi⟩

/-- A pattern put together from sign, exponent and fraction (R17). -/
def f32Pattern (sign : Bool) (e : BitVec 8) (f : BitVec 23) : Quad := (BitVec.ofBool sign ++ e ++ f : BitVec (1 + 8 + 23))

section
variable (sign : Bool) (e : BitVec 8) (f : BitVec 23)

theorem f32Pattern_fraction : (f32Pattern sign e f).extractLsb' 0 23 = f := BitVec.extractLsb'_append_eq_right

theorem f32Pattern_exponent : (f32Pattern sign e f).extractLsb' 23 8 = e := by
  apply BitVec.eq_of_toNat_eq
  rw [BitVec.extractLsb'_toNat, Nat.shiftRight_eq_div_pow]
  show (BitVec.ofBool sign ++ e ++ f).toNat / 2 ^ 23 % 2 ^ 8 = e.toNat
  rw [toNat_append_eq_add, toNat_append_eq_add]
  omega

theorem f32Pattern_msb : (f32Pattern sign e f).msb = sign := by
  show (BitVec.ofBool sign ++ e ++ f).msb = sign
  rw [BitVec.msb_append, BitVec.msb_append]
  simp

/-- A pattern with a non-zero exponent is not that of +0.0. -/
theorem f32Pattern_ne_zero (he : e ≠ 0#8) : f32Pattern sign e f ≠ 0#32 := by
  intro h
  apply he
  rw [← f32Pattern_exponent sign e f, h]
  rfl

/-- The number of a pattern with a non-zero exponent (R17). -/
theorem f32Value_f32Pattern (he : e ≠ 0#8) : f32Value (f32Pattern sign e f) =
    (if sign then -1 else 1) * (1 + (f.toNat : ℚ) / 2 ^ 23) * ((2 : ℚ) ^ e.toNat / 2 ^ 127) := by
  rw [f32Value, if_neg (f32Pattern_ne_zero sign e f he), f32Pattern_msb, f32Pattern_exponent, f32Pattern_fraction]

end

/-- `Q7toF32` of a number other than 0 (R122). -/
theorem q7ToF32_of_ne_zero {v : Half} (h : v.toInt ≠ 0) : q7ToF32 v = f32Pattern (decide (v.toInt < 0))
    (BitVec.ofNat 8 (120 + leadingOne 15 v.toInt.natAbs))
    (BitVec.ofNat 23 ((v.toInt.natAbs - 2 ^ leadingOne 15 v.toInt.natAbs) * 2 ^ (23 - leadingOne 15 v.toInt.natAbs))) :=
  if_neg h

/-- The significand and the exponent of R122 make up `m / 128`, for `m` with its leading one at bit `k`. -/
theorem significand_mul_exponent {m k : Nat} (hk : k ≤ 15) (hlo : 2 ^ k ≤ m) :
    (1 + (((m - 2 ^ k) * 2 ^ (23 - k) : Nat) : ℚ) / 2 ^ 23) * ((2 : ℚ) ^ (120 + k) / 2 ^ 127) = m / 128 := by
  have hpow : (2 : ℚ) ^ k * 2 ^ (23 - k) = 2 ^ 23 := by rw [← pow_add, Nat.add_sub_cancel' (by omega)]
  rw [Nat.cast_mul, Nat.cast_sub hlo, Nat.cast_pow, Nat.cast_pow, Nat.cast_ofNat, pow_add]
  linear_combination ((m : ℚ) - 2 ^ k) / 2 ^ 30 * hpow

/-- The sign and the magnitude of a number make up the number. -/
theorem sign_mul_natAbs (n : ℤ) : (if decide (n < 0) then -1 else 1) * ((n.natAbs : ℚ) / 128) = n / 128 := by
  rw [Nat.cast_natAbs]
  by_cases hn : n < 0
  · simp [hn, abs_of_neg hn, neg_div]
  · simp [hn, abs_of_nonneg (not_lt.mp hn)]

/-- The fraction of R122 fits in 23 bits. -/
theorem fraction_lt {m k : Nat} (hk : k ≤ 15) (hhi : m < 2 ^ (k + 1)) : (m - 2 ^ k) * 2 ^ (23 - k) < 2 ^ 23 := by
  calc (m - 2 ^ k) * 2 ^ (23 - k)
    _ < 2 ^ k * 2 ^ (23 - k) := Nat.mul_lt_mul_of_pos_right (by rw [pow_succ] at hhi; omega) (by positivity)
    _ = 2 ^ 23 := by rw [← pow_add, Nat.add_sub_cancel' (by omega)]

/-- Settles O22: sign, exponent and fraction of R122 are those of `n / 128`. -/
theorem q7ConversionIsExact : Obligations.Q7ConversionIsExact := by
  intro v
  by_cases hv : v.toInt = 0
  · obtain rfl : v = 0#16 := BitVec.eq_of_toInt_eq hv
    exact ⟨by simp [f32Value, q7ToF32], fun _ => rfl, fun h => absurd rfl h⟩
  have hm : v.toInt.natAbs < 2 ^ 16 := by
    have := v.toInt_lt
    have := v.le_toInt
    omega
  obtain ⟨hk, hlo, hhi⟩ := leadingOne_spec 15 (Int.natAbs_pos.mpr hv) hm
  have hfrac := fraction_lt hk hhi
  rw [q7ToF32_of_ne_zero hv]
  generalize leadingOne 15 v.toInt.natAbs = k at *
  have he : (BitVec.ofNat 8 (120 + k)).toNat = 120 + k := Nat.mod_eq_of_lt (by omega)
  have hf : (BitVec.ofNat 23 ((v.toInt.natAbs - 2 ^ k) * 2 ^ (23 - k))).toNat = _ := Nat.mod_eq_of_lt hfrac
  refine ⟨?_, ?_, fun _ => ?_⟩
  · have hne : BitVec.ofNat 8 (120 + k) ≠ 0#8 := by
      rw [Ne, ← BitVec.toNat_inj, he]
      simp
    rw [f32Value_f32Pattern _ _ _ hne, he, hf, mul_assoc, significand_mul_exponent hk hlo, sign_mul_natAbs]
  · rintro rfl
    exact absurd rfl hv
  · rw [f32Pattern_exponent, he]
    omega

end Sys2Proof.Machine
end

/-! The rows of results and causes (30_encoding.md section 7), the row a step selects, and the port level (20_memory.md sections 8
and 9, 40_commands.md sections 1 and 5). -/

section
namespace Sys2Proof.Machine

/-! ### Results and causes (R68, R69) -/

/-- Settles O38: each row is the emission of its code, with the writes of its error kind. -/
theorem resultRowsEmitTheirCode : Obligations.ResultRowsEmitTheirCode := fun _ =>
  ⟨rfl, rfl, rfl, rfl, rfl, rfl, rfl, rfl⟩

/-- Settles O39: the row is the write of `LAST_RES` alone. -/
theorem resNoneEmitsNothing : Obligations.ResNoneEmitsNothing := fun _ => ⟨_, rfl, rfl, rfl, rfl⟩

/-- Settles O41: each row is the write of its cause alone. -/
theorem causeRowsFlagTheirCode : Obligations.CauseRowsFlagTheirCode := fun _ =>
  ⟨⟨_, rfl, rfl, rfl⟩, ⟨_, rfl, rfl, rfl⟩, ⟨_, rfl, rfl, rfl⟩, ⟨_, rfl, rfl, rfl⟩, ⟨_, rfl, rfl, rfl⟩⟩

/-! ### The row a step selects (R8, R19, R20, R80) -/

/-- The step of a read in flight runs the row of its state. -/
theorem step_of_framer_row {s : State} (hf : s.frm.state ≠ .idle) (hr : s.rst.head? ≠ some true) :
    step s = exec (decodeFStep s.frm.state.code) s.beginStep :=
  (step_of_framer hf hr).trans (exec_framer s.beginStep hf).symm

/-- The row of an assigned `H_STATE` code. -/
theorem hstepRow_of_decode {h : HState} {i : Instr} (hi : decodeHStep h.code = some i) : hstepRow h = i := by
  rw [hstepRow, hi]

/-- Settles O45: the branches of the step, with the strobe fallen and the level of `rst` taken. -/
theorem stepRunsTheSelectedRow : Obligations.StepRunsTheSelectedRow := by
  rintro s _ hr rfl
  refine ⟨fun hs => ?_, fun hs => ?_, fun hs => ?_, fun hf => ⟨fun i hi hidle hlocked => ?_,
    fun hrest => ⟨fun w rest hc => ?_, fun hc => ?_⟩⟩⟩
  · rw [step_of_framer_row (by simp [hs]) hr, hs]
    rfl
  · rw [step_of_framer_row (by simp [hs]) hr, hs]
    rfl
  · rw [step_of_framer_row (by simp [hs]) hr, hs]
    rfl
  · rw [step_of_handshake hf (by simp [HState.active, hidle, hlocked]) hr, hstepRow_of_decode hi]
    rfl
  · exact step_of_command (s.busy_eq_false_iff.mpr ⟨hf, (active_eq_false_iff _).mpr hrest⟩) hc hr
  · exact step_of_rest hf ((active_eq_false_iff _).mpr hrest) hc hr

/-! ### The control bytes (R57) -/

/-- Completing a read leaves the control bytes as they are (R100). -/
theorem State.complete_ctl (s : State) : s.complete.ctl = s.ctl := by
  obtain ⟨smp, cnt, c, e, -⟩ := s.complete_spec
  rw [e]
  rfl

/-- Settles O50: no branch of the step writes them, nor does the reset. -/
theorem controlBytesNeverChange : Obligations.ControlBytesNeverChange := by
  intro s t h
  by_cases hr : s.rst.head? = some true
  · obtain rfl := Host.Outcome.next.inj ((step_of_reset hr).symm.trans h)
    rfl
  rcases step_next s t h hr with ⟨hf, rfl | ⟨b, -, hb⟩⟩ | ⟨-, ha, he⟩ | ⟨-, -, -, rfl⟩ |
    ⟨-, -, w, rest, u, -, rfl, rfl | ⟨b, rfl⟩ | rfl | ⟨-, rfl⟩ | ⟨-, rfl⟩⟩
  · rfl
  · obtain ⟨f, a, ⟨rfl, -⟩ | ⟨rfl, -⟩, -⟩ := State.framerByte_next b _ t (by exact hf) hb
    · rfl
    · exact State.complete_ctl _
  · obtain ⟨hs, rx, reads, ovf, abd, polls, evs, ⟨rfl, -⟩ | ⟨rfl, -⟩, -⟩ := exec_hstep s.beginStep t ha he <;> rfl
  all_goals rfl

/-! ### The command port of a busy block (R80, R89) -/

/-- The state with other commands at the port. -/
def State.withCmds (c : List CmdWord) (s : State) : State := { s with cmds := c }

section
variable (c : List CmdWord) (s : State)

/-- A received byte does the same with any commands at the port. -/
theorem State.framerByte_withCmds (b : Byte) :
    (s.withCmds c).framerByte b = mapOutcome (State.withCmds c) (s.framerByte b) := by
  have own : s.framerByte b = mapOutcome s.graft (s.framerByte b) := s.framerByte_graft s b
  rw [own, mapOutcome_mapOutcome]
  exact (s.withCmds c).framerByte_graft s b

theorem State.rxEchoByte_withCmds (r : Byte) : (s.withCmds c).rxEchoByte r = (s.rxEchoByte r).withCmds c := by
  unfold State.rxEchoByte
  dsimp only [State.withCmds]
  split <;> rfl

theorem State.rtyRxByte_withCmds (r : Byte) : (s.withCmds c).rtyRxByte r = (s.rtyRxByte r).withCmds c := by
  unfold State.rtyRxByte
  rw [apply_ite (State.withCmds c)]
  rfl

theorem State.chOvf_withCmds : (s.withCmds c).chOvf = (s.chOvf.1, s.chOvf.2.withCmds c) := by
  unfold State.chOvf
  dsimp only [State.withCmds]
  split <;> rfl

theorem State.chAbd_withCmds : (s.withCmds c).chAbd = (s.chAbd.1, s.chAbd.2.withCmds c) := by
  unfold State.chAbd
  dsimp only [State.withCmds]
  split <;> rfl

/-- Reading the channel does the same with any commands at the port, if what is done with the byte does. -/
theorem State.onRead_withCmds {k : Byte → State → Outcome}
    (hk : ∀ b t, k b (t.withCmds c) = mapOutcome (State.withCmds c) (k b t)) :
    (s.withCmds c).onRead k = mapOutcome (State.withCmds c) (s.onRead k) := by
  have hsame : (s.withCmds c).rxAnswer 0 = s.rxAnswer 0 := State.rxAnswer_congr _ _ 0 rfl rfl
  rcases s.onRead_cases k with ⟨b, hb, e⟩ | ⟨hn, e⟩
  · rw [e, State.onRead_of_byte _ k b (hsame.trans hb)]
    exact hk b (s.rxTake.log (.rx b))
  · rw [e, State.onRead_of_none _ k (hsame.trans hn)]
    rfl

/-- A handshake row in its own state does the same with any commands at the port, if its effect there does. -/
theorem next_ite_withCmds {p : Prop} [Decidable p] {t u t' u' : State} (hp : p) (ht : t' = t.withCmds c) :
    .next (if p then t' else u') = mapOutcome (State.withCmds c) (.next (if p then t else u)) := by
  rw [if_pos hp, if_pos hp, ht]
  rfl

/-- A step of a handshake in flight does the same with any commands at the port. -/
theorem exec_hstep_withCmds (ha : s.hsm.state.active = true) :
    exec (hstepRow s.hsm.state) (s.withCmds c) = mapOutcome (State.withCmds c) (exec (hstepRow s.hsm.state) s) := by
  rw [hstepRow_eq]
  cases hh : s.hsm.state with
  | idle | locked => simp [hh, HState.active] at ha
  | initClr | initEn | txInit | flush | disAbd | txConf | rtyTx => exact next_ite_withCmds c hh rfl
  | chkOvf => exact next_ite_withCmds c hh (by rw [State.chOvf_withCmds]; rfl)
  | chkAbd => exact next_ite_withCmds c hh (by rw [State.chAbd_withCmds]; rfl)
  | rxEcho =>
    refine (if_pos hh).trans (.trans ?_ (congrArg _ (if_pos hh).symm))
    exact s.onRead_withCmds c fun r t => congrArg Host.Outcome.next (t.rxEchoByte_withCmds c r)
  | rtyRx =>
    refine (if_pos hh).trans (.trans ?_ (congrArg _ (if_pos hh).symm))
    exact s.onRead_withCmds c fun r t => congrArg Host.Outcome.next (t.rtyRxByte_withCmds c r)

variable {s}

/-- The step of a busy block does the same with any commands at the port. -/
theorem step_withCmds (hb : s.busy = true) (hr : s.rst.head? ≠ some true) :
    step (s.withCmds c) = mapOutcome (State.withCmds c) (step s) := by
  by_cases hf : s.frm.state = .idle
  · have ha : s.hsm.state.active = true := by simpa [State.busy, hf] using hb
    rw [step_of_handshake hf ha hr, step_of_handshake (s := s.withCmds c) hf ha hr]
    exact exec_hstep_withCmds c s.beginStep ha
  · rw [step_of_framer hf hr, step_of_framer (s := s.withCmds c) hf hr]
    exact s.beginStep.onRead_withCmds c fun b t => t.framerByte_withCmds c b

end

/-! ### Cycles (R59, R80, R89, R200) -/

theorem State.sameRegs_refl (s : State) : s.sameRegs s = true := by
  simp [State.sameRegs]

section
variable {inp : PortInputs} {s : State}

/-- A cycle with a byte to send and no room for it changes no register (R59). -/
theorem cycle_of_tx_wait (hr : inp.rst = false) (hw : s.waitsTx = true) (ht : inp.txReady = false) :
    cycle inp s = .next (s.withPorts inp).beginStep := by
  simp [cycle, hr, hw, ht]

/-- Any other cycle is a step on what the ports offer (R89). -/
theorem cycle_of_step (hw : ¬ (s.waitsTx = true ∧ inp.txReady = false)) : cycle inp s = step (s.withPorts inp) := by
  refine if_neg fun h => hw ?_
  simp only [Bool.and_eq_true, Bool.not_eq_true'] at h
  obtain ⟨⟨-, hs⟩, ht⟩ := h
  exact ⟨hs, ht⟩

/-- A state whose operation is `ChRead` has no byte to send. -/
theorem State.waitsTx_of_waitsRx (hw : s.waitsRx = true) : s.waitsTx = false := by
  by_cases hf : s.frm.state = .idle
  · have hh : s.hsm.state = .rxEcho ∨ s.hsm.state = .rtyRx := by simpa [State.waitsRx, hf] using hw
    rcases hh with hh | hh <;> simp [State.waitsTx, hh]
  · simp [State.waitsTx, hf]

/-- An idle block has no byte to send. -/
theorem State.waitsTx_of_idle (hb : s.busy = false) : s.waitsTx = false := by
  obtain ⟨hf, ha⟩ := s.busy_eq_false_iff.mp hb
  rcases (active_eq_false_iff _).mp ha with hh | hh <;> simp [State.waitsTx, hh]

end

/-- Settles O54: a cycle that cannot complete is a stutter, and a busy block's step does the same with any commands. -/
theorem cyclesStutterUntilReady : Obligations.CyclesStutterUntilReady := by
  intro inp s hr
  have hrst : (s.withPorts inp).rst.head? ≠ some true := by simp [State.withPorts, hr]
  refine ⟨fun hwait => ?_, fun hb v op d t ht => ?_⟩
  · rcases hwait with ⟨hw, hx⟩ | ⟨hw, ht⟩ | ⟨hb, hc⟩
    · have hnone : (s.withPorts inp).rxAnswer 0 = none := State.rxAnswer_cons _ none [] (by simp [State.withPorts, hx])
      have hcycle := cycle_of_step (inp := inp) (s := s) (by simp [State.waitsTx_of_waitsRx hw])
      exact ⟨_, hcycle.trans (step_of_silence hw hnone hrst), s.sameRegs_refl⟩
    · exact ⟨_, cycle_of_tx_wait hr hw ht, s.sameRegs_refl⟩
    · obtain ⟨hf, ha⟩ := s.busy_eq_false_iff.mp hb
      have hcycle := cycle_of_step (inp := inp) (s := s) (by simp [State.waitsTx_of_idle hb])
      exact ⟨_, hcycle.trans (step_of_rest hf ha (by simp [State.withPorts, hc]) hrst), s.sameRegs_refl⟩
  · by_cases hw : s.waitsTx = true ∧ inp.txReady = false
    · obtain ⟨hw, hready⟩ := hw
      rw [cycle_of_tx_wait hr hw hready] at ht
      obtain rfl := Host.Outcome.next.inj ht
      exact ⟨_, cycle_of_tx_wait (by exact hr) hw hready, s.sameRegs_refl⟩
    · rw [cycle_of_step hw] at ht
      have hcmds := step_withCmds (if v then [(op ++ d : BitVec (2 + 8))] else []) (s := s.withPorts inp) hb hrst
      rw [ht] at hcmds
      exact ⟨_, (cycle_of_step (by exact hw)).trans hcmds, t.sameRegs_refl⟩

end Sys2Proof.Machine
end
